-- ==== Sys2Proof/Word.lean ====
section
/-!
DEFINITION. The word types of the SB-620 and the byte order of the local bus and the link.
Sizes are in bytes, a word is 4 bytes (00, Addresses and lengths).
-/

namespace Sys2Proof

/-- One byte of a frame or of local RAM. -/
abbrev Byte := BitVec 8

/-- One 32-bit word: a register of the window, or a word on the local bus. -/
abbrev Word := BitVec 32

/-- A station number as a register or a frame holds it: 0-30 a station, 31 ALL or none. -/
abbrev StationNo := BitVec 5

/-- A tag, which is also the place of its entry in the Tracker Table (R34). -/
abbrev Tag := Fin 32

/-- A transfer channel, CH0 to CH5. -/
abbrev ChannelNo := Fin 6

/-- A span of time in microseconds (00, Time). -/
abbrev Micros := Nat

end Sys2Proof
end

