-- ==== Sys2Proof/Syntax.lean ====
section
/-!
DEFINITION. The commands of the SB-620: one constructor per row of spec/opcode_table.json, in the table's order.
An operand is what the row's event carries into the station: the operand field of COMMAND (R188), the word of a register
write (R184), the pins' levels, the channel, tag, record or station whose timer expires, the bits heard on the pair,
the word on the local bus.
-/

namespace Sys2Proof

/-- One command or event the station takes, whole and in one step (R184, 95). -/
inductive Instr where
  | join (op : BitVec 3)
  | leave (op : BitVec 3)
  | stationReset (op : BitVec 3)
  | holdUp (op : BitVec 3)
  | holdDown (op : BitVec 3)
  | sendNotice (op : BitVec 3)
  | popNotice (op : BitVec 3)
  | clearCounters (op : BitVec 3)
  | chEnable (op : BitVec 3)
  | chStart (op : BitVec 3)
  | chPause (op : BitVec 3)
  | chResume (op : BitVec 3)
  | chAbort (op : BitVec 3)
  | chDisable (op : BitVec 3)
  | unknownCommandCode (code : BitVec 8) (op : BitVec 3)
  | stnNumberWrite (v : Word)
  | timingWrite (v : Word)
  | windowTableWrite (n : Fin 8) (word : Fin 4) (v : Word)
  | descriptorWrite (n : ChannelNo) (word : Fin 8) (v : Word)
  | hnSendWrite (v : Word)
  | evtFlagsWrite (v : Word)
  | evtEnableWrite (v : Word)
  | rosterChangeWrite (v : Word)
  /-- `a` is LS_A9-LS_A2, the offset in words. -/
  | otherRegisterWrite (a : BitVec 8) (v : Word)
  | hardwareReset
  /-- RESET_N going high with SADDR4-SADDR0 at `straps`. -/
  | resetRelease (straps : BitVec 5)
  /-- A rising edge of TRIG0 (0) or TRIG1 (1). -/
  | triggerEdge (line : Fin 2)
  | channelStart (n : ChannelNo)
  | segmentIssue (n : ChannelNo)
  | tagAllocation
  | frameGap
  | roundGap
  | claimStart
  | claimLost
  | claimWon
  | sendCleanEnd
  | sendGarbled
  /-- The end of a heard transmission: the 7 claim bits, and the bytes whose fill bit was read dominant (R153). -/
  | frameJudged (claim : BitVec 7) (bytes : List Byte)
  | frameDispatch
  | deadlineExpiry (t : Tag)
  | quarantineExpiry (t : Tag)
  /-- `r` is the place of the record among the channel's records in use, lowest offset first. -/
  | segmentBackoffExpiry (n : ChannelNo) (r : Fin 4)
  | endNoticeBackoffExpiry (n : ChannelNo)
  | hostNoticeBackoffExpiry
  | listenTimerExpiry
  | heartbeatTimerExpiry
  | drainTimerExpiry
  | drainEnd
  | silenceTimerExpiry (n : Fin 31)
  | busGrant
  /-- `w` is the word on LM_D31-LM_D0, taken by a read burst. -/
  | burstEnd (w : Word)
  | busError
  | engineAnswerPlaced
  | startBit
  /-- `w` is the word on LM_D31-LM_D0, taken by a read burst. -/
  | wordTransferEnd (w : Word)
  deriving DecidableEq, Repr

end Sys2Proof
end

