-- ==== Sys2Proof/Decode.lean ====
section
/-!
DEFINITION. The reading of words as commands: a word written to COMMAND, and a write to any offset of the register window
(09, register map; R184, R185, R188). spec/opcode_table.json gives no row any bits (its fields are all empty), so no word spells
a command by the table.
-/

namespace Sys2Proof

/-- The command a word written to COMMAND is: bits 7-0 the code, bits 10-8 the operand, the rest not read (R185, R188; 09,
command code). -/
def commandOfWord (v : Word) : Instr :=
  let op := v.extractLsb' 8 3
  match (v.extractLsb' 0 8).toNat with
  | 0x01 => .join op
  | 0x02 => .leave op
  | 0x03 => .stationReset op
  | 0x04 => .holdUp op
  | 0x05 => .holdDown op
  | 0x06 => .sendNotice op
  | 0x07 => .popNotice op
  | 0x08 => .clearCounters op
  | 0x10 => .chEnable op
  | 0x11 => .chStart op
  | 0x12 => .chPause op
  | 0x13 => .chResume op
  | 0x14 => .chAbort op
  | 0x15 => .chDisable op
  | _ => .unknownCommandCode (v.extractLsb' 0 8) op

/-- The command a write of `v` at word offset `a` of the register window is (09, register map; R184, R185). -/
def registerWrite (a : BitVec 8) (v : Word) : Instr :=
  let off := 4 * a.toNat
  if off = 0x000 then .stnNumberWrite v
  else if off = 0x008 then .timingWrite v
  else if off = 0x00C then commandOfWord v
  else if off = 0x014 then .evtFlagsWrite v
  else if off = 0x018 then .evtEnableWrite v
  else if off = 0x038 then .hnSendWrite v
  else if off = 0x048 then .rosterChangeWrite v
  else if 0x080 ≤ off ∧ off < 0x100 then
    .windowTableWrite (Fin.ofNat 8 ((off - 0x080) / 0x10)) (Fin.ofNat 4 (off % 0x10 / 4)) v
  else if 0x100 ≤ off ∧ off < 0x1C0 then
    .descriptorWrite (Fin.ofNat 6 ((off - 0x100) / 0x20)) (Fin.ofNat 8 (off % 0x20 / 4)) v
  else .otherRegisterWrite a v

/-- No row of the opcode table gives bits, so every word is refused; what a word written to a register spells is
`registerWrite`. -/
def decodeTableWord (_nbits _w : Nat) : Option Instr := none

end Sys2Proof
end

