-- ==== Sys2Proof/Config.lean ====
section
/-!
DEFINITION. The sizes and limits the spec fixes (00, Fixed quantities), each with the rule that gives it, and the one value it
leaves open.
-/

namespace Sys2Proof.Config

/-- Segment records of a channel (section 1.7). -/
def segmentRecords : Nat := 4
/-- Busy refusals a segment or a notice may suffer and still be sent again (R19, R25, R99). -/
def busyLimit : Nat := 15
/-- The backoff after the n-th busy refusal is n times this (R19). -/
def backoffUnit : Micros := 100
/-- Timeouts after which the Host Notice Slot still sends again (R99). -/
def hostRetryLimit : Nat := 3
/-- Greatest hold depth (R10). -/
def holdLimit : Nat := 15
/-- Unit of T_resp, µs (R43). -/
def responseUnit : Micros := 16
/-- Unit of T_hb, µs (00, Time). -/
def heartbeatUnit : Micros := 1000
/-- The listen period in heartbeat intervals (R108). -/
def listenIntervals : Nat := 4
/-- The absence threshold in heartbeat intervals (R125). -/
def absenceIntervals : Nat := 3
/-- The drain limit in response budgets (R111). -/
def drainBudgets : Nat := 4
/-- Capacity of the Inbound Queue (R73). -/
def inboundQueueSize : Nat := 8
/-- Capacity of the Response Queue (R81). -/
def responseQueueSize : Nat := 8
/-- Capacity of the Notice Queue (R94). -/
def noticeQueueSize : Nat := 8
/-- Capacity of the Receive Buffer (R161). -/
def receiveBufferSize : Nat := 4
/-- Bytes of one chunk of a served read (R78). -/
def chunkBytes : Nat := 64
/-- Idle time that opens an opportunity to claim, µs (R129). -/
def frameGap : Micros := 4
/-- Idle time that ends a round, µs (R129). -/
def roundGap : Micros := 16
/-- Consecutive garbled sends that put the station in CONFLICT (R143). -/
def garbleLimit : Nat := 4
/-- Size of the remote space, 1000000H (R2, R66). -/
def remoteSpace : Nat := 0x1000000
/-- T_resp after hardware reset (R105). -/
def defaultResp : BitVec 12 := 64
/-- T_hb after hardware reset (R105). -/
def defaultHb : BitVec 8 := 10

/-- FREE VALUE. The current remote address of an INCREMENT transfer whose front has reached the top of the remote space, by
the descriptor's remote address and the front: R33's sum does not fit the 24-bit field, and the spec does not say what is
held (DESIGN CHOICE, log entry 21). -/
opaque remotePastTop : BitVec 24 → Nat → BitVec 24

end Sys2Proof.Config
end

