-- ==== Sys2Proof/Machine/State.lean ====
section
/-!
DEFINITION. The state of the SB-620, block by block as 00 lists the blocks, as plain data, and State.reset.
INVENTORY.md, heading State, gives for every field the rule that names it.
-/

namespace Sys2Proof.Machine

open Sys2Proof

/-! ## Codes (09, coded fields; R155) -/

/-- Station states (R118). -/
inductive StationState where
  | offline | listening | online | leaving | conflict
  deriving DecidableEq, Repr

/-- Conflict causes (R117). -/
inductive ConflictCause where
  | none | duplicate | garbled
  deriving DecidableEq, Repr

/-- Channel states (section 1.3). -/
inductive ChannelState where
  | off | armed | running | paused | notifying
  deriving DecidableEq, Repr

/-- Termination codes (R27). -/
inductive TermCode where
  | none | normal | aborted | timeout | dataError | refused | peerAbsent | peerLost | localFault | noticeFailed
  | badDescriptor | left | conflict
  deriving DecidableEq, Repr

/-- Refuse reasons a REFUSE frame carries (R155). -/
inductive RefuseReason where
  | busy | denied | outOfWindow | badRequest | notOnline | noticeFull | localError
  deriving DecidableEq, Repr

inductive Direction where
  | pull | push
  deriving DecidableEq, Repr

inductive AddrMode where
  | increment | fixed
  deriving DecidableEq, Repr

inductive Priority where
  | low | high
  deriving DecidableEq, Repr

inductive TriggerSource where
  | host | line0 | line1 | notice
  deriving DecidableEq, Repr

/-- Latched event flags (R190). -/
inductive EventFlag where
  | chEnd (n : ChannelNo) | chErr (n : ChannelNo) | stationState | hostNoticeDone | cmdRefused | overrun
  deriving DecidableEq, Repr

/-! ## Frames (R154) -/

/-- The state a HELLO carries (R106). -/
inductive HelloState where
  | online | leaving
  deriving DecidableEq, Repr

/-- What a frame holds besides its destination and source (R154). -/
inductive FrameBody where
  | readReq (tag : Tag) (addr : BitVec 24) (len : BitVec 16)
  | writeReq (tag : Tag) (addr : BitVec 24) (len : BitVec 16) (payload : List Byte)
  | notice (tag : Tag) (code : BitVec 16)
  /-- `place` is the offset divided by 4. -/
  | readData (tag : Tag) (last : Bool) (place : BitVec 6) (payload : List Byte)
  | ack (tag : Tag)
  | refuse (tag : Tag) (reason : RefuseReason)
  | hello (st : HelloState)
  | announce
  | leave
  deriving DecidableEq, Repr

/-- A frame as received or sent, without claim field and frame check (R161). -/
structure Frame where
  dest : Byte
  src  : StationNo
  body : FrameBody
  deriving DecidableEq, Repr

/-! ## Transfer Channels (01) -/

/-- The descriptor, as the register encoding holds it (section 1.1, 09). -/
structure Descriptor where
  direction      : Direction := .pull
  peer           : StationNo := 0
  remote         : BitVec 24 := 0
  remoteMode     : AddrMode := .increment
  localAddr      : Word := 0
  localMode      : AddrMode := .increment
  length         : BitVec 24 := 0
  segSize        : BitVec 9 := 0
  /-- Depth - 1 (R185). -/
  depthCode      : BitVec 2 := 0
  retryLimit     : BitVec 3 := 0
  priority       : Priority := .low
  triggerSource  : TriggerSource := .host
  triggerCode    : BitVec 16 := 0
  /-- 0-30 a station, 31 ANY (R185). -/
  triggerStation : StationNo := 0
  reload         : Bool := false
  endNotice      : Bool := false
  endNoticeCode  : BitVec 16 := 0
  endIrq         : Bool := false
  errIrq         : Bool := false
  deriving DecidableEq, Repr

/-- State of a segment record in use (section 1.7). -/
inductive SegState where
  | pending
  | outstanding (tag : Tag)
  | backoff (left : Micros)
  | done
  deriving DecidableEq, Repr

/-- A segment record in use (section 1.7). -/
structure SegRecord where
  state    : SegState
  offset   : Nat
  length   : Nat
  attempts : Nat := 0
  busy     : Nat := 0
  deriving DecidableEq, Repr

/-- Where an outgoing notice stands: waiting for a tag, holding an entry, or backing off (R25, R98). -/
inductive NoticePhase where
  | waiting
  | tagged (tag : Tag)
  | backoff (left : Micros)
  deriving DecidableEq, Repr

/-- The notice record of a NOTIFYING channel (R25). -/
structure NoticeRecord where
  phase    : NoticePhase := .waiting
  attempts : Nat := 0
  busy     : Nat := 0
  deriving DecidableEq, Repr

/-- One transfer channel. -/
structure Channel where
  desc      : Descriptor := {}
  state     : ChannelState := .off
  latch     : Bool := false
  pause     : Bool := false
  overrun   : Bool := false
  /-- WAITING_FOR_TAG; the channel is in the tracker's waiting set (R37). -/
  waiting   : Bool := false
  front     : Nat := 0
  cutOffset : Nat := 0
  remaining : Nat := 0
  curRemote : BitVec 24 := 0
  curLocal  : Word := 0
  code      : TermCode := .none
  reason    : Option RefuseReason := Option.none
  /-- The records in use, lowest offset first: they are cut in address order and freed at the front (R11, R17). -/
  records   : List SegRecord := []
  notice    : Option NoticeRecord := Option.none
  /-- The payload of the channel's not-yet-sent WRITE_REQ once its fetch has completed (R16). -/
  payload   : Option (List Byte) := Option.none
  deriving DecidableEq, Repr

/-! ## Request Tracker (02) -/

inductive EntryState where
  | free | queued | live | abandoned | quarantined
  deriving DecidableEq, Repr

inductive EntryKind where
  | read | write | notice
  deriving DecidableEq, Repr

inductive Owner where
  | channel (n : ChannelNo) | host
  deriving DecidableEq, Repr

/-- One entry of the Tracker Table (02, section intro; R35). -/
structure Entry where
  state       : EntryState := .free
  kind        : EntryKind := .read
  owner       : Owner := .channel 0
  peer        : StationNo := 0
  remote      : BitVec 24 := 0
  length      : Nat := 0
  localAddr   : Word := 0
  localMode   : AddrMode := .increment
  received    : Nat := 0
  sendingMark : Bool := false
  landingMark : Bool := false
  /-- µs left of the deadline, while it runs. -/
  deadline    : Option Micros := none
  /-- µs left of the quarantine, while it runs. -/
  quarantine  : Option Micros := none
  deriving DecidableEq, Repr

/-- The Tracker Table and the QUEUED order. The waiting set is the channels' `waiting` flags and the slot's phase. -/
structure Tracker where
  entries : Vector Entry 32 := Vector.replicate 32 {}
  queued  : List Tag := []
  deriving DecidableEq, Repr

/-- The result an entry's owner is given (R60). -/
inductive Result where
  | completed
  | refused (r : RefuseReason)
  | timeout
  | dataError
  | peerLost
  | localFault
  deriving DecidableEq, Repr

/-! ## Inbound Service (03) -/

/-- One window, as the register encoding holds it (R65, R185). -/
structure Window where
  enable    : Bool := false
  base      : BitVec 24 := 0
  size      : BitVec 25 := 0
  localBase : Word := 0
  access    : BitVec 2 := 0
  sources   : BitVec 31 := 0
  deriving DecidableEq, Repr

/-- A request in the Inbound Queue (R73). -/
structure InRequest where
  src       : StationNo
  tag       : Tag
  /-- WRITE_REQ (true) or READ_REQ (false). -/
  write     : Bool
  remote    : BitVec 24
  length    : Nat
  localAddr : Word
  payload   : List Byte
  deriving DecidableEq, Repr

/-- ACK, or REFUSE with its reason. -/
inductive Answer where
  | ack | refuse (r : RefuseReason)
  deriving DecidableEq, Repr

/-- A frame of the Response Queue (R81). -/
structure Response where
  dest    : StationNo
  tag     : Tag
  answer  : Answer
  sending : Bool := false
  deriving DecidableEq, Repr

/-- The frame of the Data Slot (R82). -/
structure DataFrame where
  dest    : StationNo
  tag     : Tag
  offset  : Nat
  last    : Bool
  payload : List Byte
  sending : Bool := false
  deriving DecidableEq, Repr

/-- The service engine (section 3.4): READING holds the offset of the next chunk, ANSWERING its formed answer. -/
inductive Engine where
  | idle
  | writing
  | reading (next : Nat)
  | answering (a : Response)
  deriving DecidableEq, Repr

structure Inbound where
  windows   : Vector Window 8 := Vector.replicate 8 {}
  queue     : List InRequest := []
  responses : List Response := []
  dataSlot  : Option DataFrame := none
  engine    : Engine := .idle
  deriving DecidableEq, Repr

/-! ## Notice Unit (04) -/

structure QueuedNotice where
  src  : StationNo
  code : BitVec 16
  seq  : BitVec 8
  deriving DecidableEq, Repr

/-- IDLE, SENDING (with where the notice stands), DONE (section 4.3). -/
inductive SlotState where
  | idle
  | sending (p : NoticePhase)
  | done
  deriving DecidableEq, Repr

inductive SlotResult where
  | none | acked | refused | timeout | peerLost
  deriving DecidableEq, Repr

/-- The Host Notice Slot (R97 to R102). -/
structure Slot where
  peer     : StationNo := 0
  code     : BitVec 16 := 0
  state    : SlotState := .idle
  result   : SlotResult := .none
  reason   : Option RefuseReason := Option.none
  attempts : Nat := 0
  busy     : Nat := 0
  deriving DecidableEq, Repr

structure NoticeUnit where
  queue : List QueuedNotice := []
  seq   : BitVec 8 := 0
  slot  : Slot := {}
  deriving DecidableEq, Repr

/-! ## Membership Unit (05) -/

inductive ControlKind where
  | announce
  /-- `byTimer`: appended by the heartbeat timer, so that another clean send withdraws it (R107). -/
  | hello (st : HelloState) (byTimer : Bool)
  | leave
  deriving DecidableEq, Repr

structure ControlFrame where
  kind    : ControlKind
  sending : Bool := false
  deriving DecidableEq, Repr

/-- The heartbeat timer (R107). -/
inductive Heartbeat where
  | stopped
  | running (elapsed : Micros)
  | expired
  deriving DecidableEq, Repr

/-- ABSENT, or PRESENT with the silence timer's elapsed time (section 5.7). -/
inductive Presence where
  | absent
  | present (silence : Micros)
  deriving DecidableEq, Repr

structure RosterEntry where
  presence : Presence := .absent
  leaving  : Bool := false
  changed  : Bool := false
  deriving DecidableEq, Repr

structure Membership where
  state     : StationState := .offline
  cause     : ConflictCause := .none
  number    : StationNo := 0
  tResp     : BitVec 12 := Config.defaultResp
  tHb       : BitVec 8 := Config.defaultHb
  /-- µs left of the listen period, while it runs. -/
  listen    : Option Micros := none
  heartbeat : Heartbeat := .stopped
  /-- µs left of the drain limit, while it runs. In LEAVING, none says that the drain has ended (R112, R113). -/
  drain     : Option Micros := none
  control   : List ControlFrame := []
  roster    : Vector RosterEntry 31 := Vector.replicate 31 {}
  deriving DecidableEq, Repr

/-! ## Link Access Unit (06) -/

/-- The frame a claim or a send is for, named by the place where its producer keeps it (section 6.2). -/
inductive FrameRef where
  | response
  | dataSlot
  | control
  | entry (t : Tag)
  deriving DecidableEq, Repr

/-- WAITING has no chosen frame; CLAIMING and SENDING have one. -/
inductive UnitState where
  | waiting
  | claiming (f : FrameRef)
  | sending (f : FrameRef)
  deriving DecidableEq, Repr

structure LinkUnit where
  unit    : UnitState := .waiting
  highPtr : ChannelNo := 5
  lowPtr  : ChannelNo := 5
  spent   : Bool := false
  garble  : Nat := 0
  idle    : Micros := 0
  deriving DecidableEq, Repr

/-! ## Frame Receiver (07) -/

inductive RxState where
  | idle | framing | skipping
  deriving DecidableEq, Repr

/-- The transmission being framed: its claim value and the bytes read so far. -/
structure InProgress where
  claim : BitVec 7 := 0
  bytes : List Byte := []
  deriving DecidableEq, Repr

structure Receiver where
  state      : RxState := .skipping
  inProgress : Option InProgress := none
  ownMark    : Bool := false
  buffer     : List Frame := []
  badFrame   : BitVec 16 := 0
  stale      : BitVec 16 := 0
  dropped    : BitVec 16 := 0
  deriving DecidableEq, Repr

/-! ## Local Memory Port (08) -/

inductive BusDir where
  | read | write
  deriving DecidableEq, Repr

inductive Requester where
  | landing | service | fetch (n : ChannelNo)
  deriving DecidableEq, Repr

/-- A request for one burst (R169); `data` holds the words of a write. -/
structure BurstRequest where
  dir   : BusDir
  mode  : AddrMode
  first : Word
  count : Nat
  data  : List Word := []
  deriving DecidableEq, Repr

/-- The burst in progress; `got` holds the words a read has taken so far. -/
structure Burst where
  requester : Requester
  req       : BurstRequest
  done      : Nat := 0
  cancelled : Bool := false
  got       : List Word := []
  deriving DecidableEq, Repr

inductive PortState where
  | free
  | requesting
  | burst (b : Burst)
  deriving DecidableEq, Repr

/-- One word transfer as the port drives it (R174). -/
structure WordTransfer where
  dir  : BusDir
  addr : Word
  data : Word
  deriving DecidableEq, Repr

structure Port where
  state   : PortState := .free
  landing : Option BurstRequest := none
  service : Option BurstRequest := none
  fetches : List (ChannelNo × BurstRequest) := []
  /-- The word in transfer at a reset, until the device ends it (R182). -/
  tail    : Option WordTransfer := none
  deriving DecidableEq, Repr

/-! ## Host Port (09) -/

inductive RefusalKind where
  | command | registerWrite
  deriving DecidableEq, Repr

inductive RefusalReason where
  | none | wrongState | badOperand | holdLimit | configInvalid | descriptorInvalid | queueEmpty | writeLocked
  deriving DecidableEq, Repr

/-- The last-refusal record (R189). -/
structure RefusalRecord where
  kind    : RefusalKind := .command
  code    : BitVec 8 := 0
  operand : BitVec 3 := 0
  offset  : BitVec 10 := 0
  reason  : RefusalReason := .none
  deriving DecidableEq, Repr

structure HostPort where
  refusal  : RefusalRecord := {}
  /-- The latched flags, at their bits of EVT_FLAGS. -/
  latched  : Word := 0
  enables  : Word := 0
  /-- RESET_N is held low (R196). -/
  resetLow : Bool := true
  deriving DecidableEq, Repr

/-! ## The station -/

/-- The whole state. `ramWrites` and `pending` are the model's own (log entries 6 and 1). -/
structure State where
  channels  : Vector Channel 6 := Vector.replicate 6 {}
  holdDepth : Nat := 0
  tracker   : Tracker := {}
  inbound   : Inbound := {}
  notices   : NoticeUnit := {}
  member    : Membership := {}
  link      : LinkUnit := {}
  rx        : Receiver := {}
  port      : Port := {}
  host      : HostPort := {}
  /-- The words the port has completed writing on the local bus, oldest first. -/
  ramWrites : List (Word × Word) := []
  /-- The commands that wait, first in first out. -/
  pending   : List Instr := []
  deriving DecidableEq, Repr

/-- The spec describes nothing that stops the station, so no step faults. -/
inductive Fault where
  deriving DecidableEq, Repr

/-- Why a step has no meaning. -/
inductive Refusal where
  /-- Answered by an arm of exec whose row has no meaning yet: safe (the run stops). No arm answers it. -/
  | notModelled (mnemonic : String)
  /-- Answered by UNKNOWN_COMMAND_CODE with a known code and by OTHER_REGISTER_WRITE at a writable register while RESET_N
  is high: the term is an event of another row. Safe (the run stops). -/
  | notThisRow (mnemonic : String)
  deriving DecidableEq, Repr

/-- The station in hardware reset with RESET_N low, as after power-up (R195): every field at the value the rules cited in
INVENTORY.md give. RESET_RELEASE then loads the station number from the straps (R197). -/
def State.reset : State := {}

end Sys2Proof.Machine
end

