-- ==== Sys2Proof/Machine/Frames.lean ====
section
/-!
DEFINITION. Frame formats (07, sections 7.2 and 7.3): the bytes of a frame, the frame check, the claim value, and the
judging of heard bytes.
-/

namespace Sys2Proof.Machine

open Sys2Proof

/-! ## Frame check (R156) -/

/-- One bit of the check: combined with the top bit, shift, combine with 1021H when the combined bit is one. -/
def crcBit (reg : BitVec 16) (bit : Bool) : BitVec 16 :=
  if reg.msb ^^ bit then (reg <<< 1) ^^^ 0x1021 else reg <<< 1

/-- One byte, most significant bit first. -/
def crcByte (reg : BitVec 16) (x : Byte) : BitVec 16 :=
  [7, 6, 5, 4, 3, 2, 1, 0].foldl (fun r i => crcBit r (x.getLsbD i)) reg

/-- The check over the bytes before it, starting at FFFFH (R156). -/
def frameCheck (bytes : List Byte) : BitVec 16 := bytes.foldl crcByte 0xFFFF

/-- Two bytes of a 16-bit field, high byte first (R154). -/
def bytes16 (x : BitVec 16) : List Byte := [x.extractLsb' 8 8, x.extractLsb' 0 8]

/-- Three bytes of a 24-bit field, high byte first (R154). -/
def bytes24 (x : BitVec 24) : List Byte := [x.extractLsb' 16 8, x.extractLsb' 8 8, x.extractLsb' 0 8]

/-! ## Codes (R155) -/

def RefuseReason.code : RefuseReason → Byte
  | .busy => 1 | .denied => 2 | .outOfWindow => 3 | .badRequest => 4 | .notOnline => 5 | .noticeFull => 6
  | .localError => 7

def RefuseReason.ofCode (b : Byte) : Option RefuseReason :=
  if b = 1 then some .busy else if b = 2 then some .denied else if b = 3 then some .outOfWindow
  else if b = 4 then some .badRequest else if b = 5 then some .notOnline else if b = 6 then some .noticeFull
  else if b = 7 then some .localError else none

def HelloState.code : HelloState → Byte
  | .online => 1 | .leaving => 2

def HelloState.ofCode (b : Byte) : Option HelloState :=
  if b = 1 then some .online else if b = 2 then some .leaving else none

/-- The kind byte of a frame (R155). -/
def FrameBody.kindCode : FrameBody → Byte
  | .readReq .. => 0x11 | .writeReq .. => 0x12 | .notice .. => 0x21 | .readData .. => 0x31 | .ack _ => 0x32
  | .refuse .. => 0x33 | .hello _ => 0x41 | .announce => 0x42 | .leave => 0x43

/-- The class value of a frame (00, Frame classes; R155). -/
def FrameBody.classValue : FrameBody → Nat
  | .readData .. | .ack _ | .refuse .. => 3
  | .hello _ | .announce | .leave => 2
  | .notice .. => 1
  | .readReq .. | .writeReq .. => 0

/-- The claim value of a frame: the class value times 32 plus the source (R139). -/
def claimValue (cls : Nat) (src : StationNo) : BitVec 7 := BitVec.ofNat 7 (cls * 32 + src.toNat)

/-! ## Forming a frame (R154) -/

def tagByte (t : Tag) : Byte := BitVec.ofNat 8 t.val

/-- The place byte of a READ_DATA: the last flag, bit 6 clear, the offset divided by 4. -/
def placeByte (last : Bool) (place : BitVec 6) : Byte := BitVec.ofBool last ++ 0#1 ++ place

/-- Bytes 4 up to the byte before the check. -/
def FrameBody.fields : FrameBody → List Byte
  | .readReq t a l => tagByte t :: (bytes24 a ++ bytes16 l)
  | .writeReq t a l p => tagByte t :: (bytes24 a ++ (bytes16 l ++ p))
  | .notice t c => tagByte t :: bytes16 c
  | .readData t last place p => tagByte t :: placeByte last place :: p
  | .ack t => [tagByte t]
  | .refuse t r => [tagByte t, r.code]
  | .hello st => [st.code]
  | .announce | .leave => []

/-- The frame up to the byte before the check. -/
def Frame.bytesBeforeCheck (f : Frame) : List Byte :=
  f.dest :: f.src.setWidth 8 :: f.body.kindCode :: BitVec.ofNat 8 (f.body.fields.length + 6) :: f.body.fields

/-- The whole frame as it goes on the pair after its claim field (R154, R156). -/
def Frame.bytes (f : Frame) : List Byte := f.bytesBeforeCheck ++ bytes16 (frameCheck f.bytesBeforeCheck)

/-! ## Judging heard bytes (R157) -/

def tagOf (b : Byte) : Option Tag := if h : b.toNat < 32 then some ⟨b.toNat, h⟩ else none

/-- The fields of a frame by its kind byte. `none`: unknown kind, a size that does not fit the kind, a tag above 31, or a
field value outside its codes (R157, rows Kind, Size, Tag, Field values). -/
def parseBody (kind : Byte) (fields : List Byte) : Option FrameBody :=
  if kind = 0x11 then
    match fields with
    | [t, a2, a1, a0, l1, l0] => (tagOf t).map fun t => .readReq t (a2 ++ a1 ++ a0) (l1 ++ l0)
    | _ => none
  else if kind = 0x12 then
    match fields with
    | t :: a2 :: a1 :: a0 :: l1 :: l0 :: p =>
      if p.length ≤ 64 then (tagOf t).map fun t => .writeReq t (a2 ++ a1 ++ a0) (l1 ++ l0) p else none
    | _ => none
  else if kind = 0x21 then
    match fields with
    | [t, c1, c0] => (tagOf t).map fun t => .notice t (c1 ++ c0)
    | _ => none
  else if kind = 0x31 then
    match fields with
    | t :: place :: p =>
      if 4 ≤ p.length ∧ p.length ≤ 64 ∧ p.length % 4 = 0 ∧ place.getLsbD 6 = false then
        (tagOf t).map fun t => .readData t (place.getLsbD 7) (place.extractLsb' 0 6) p
      else none
    | _ => none
  else if kind = 0x32 then
    match fields with
    | [t] => (tagOf t).map .ack
    | _ => none
  else if kind = 0x33 then
    match fields with
    | [t, r] => (tagOf t).bind fun t => (RefuseReason.ofCode r).map (.refuse t)
    | _ => none
  else if kind = 0x41 then
    match fields with
    | [st] => (HelloState.ofCode st).map .hello
    | _ => none
  else if kind = 0x42 then
    match fields with
    | [] => some .announce
    | _ => none
  else if kind = 0x43 then
    match fields with
    | [] => some .leave
    | _ => none
  else none

/-- The destination fits the kind: 31 (ALL) exactly for HELLO, ANNOUNCE and LEAVE (R157, row Destination). -/
def destinationFits (dest : Byte) (body : FrameBody) : Bool := (dest = 31) = (body.classValue = 2)

/-- The frame ended whole: its last byte, named by its size field, was read, and the size is 6-76 (R153). -/
def endedWhole (bytes : List Byte) : Bool :=
  match bytes with
  | _ :: _ :: _ :: size :: _ => 6 ≤ size.toNat ∧ size.toNat ≤ 76 ∧ bytes.length = size.toNat
  | _ => false

/-- The valid frame that the heard claim value and bytes form, `none` for a bad frame: all the checks of R157. -/
def judgeFrame (claim : BitVec 7) (bytes : List Byte) : Option Frame :=
  match bytes with
  | dest :: src :: kind :: _ :: rest =>
    let n := rest.length - 2
    if endedWhole bytes ∧ rest.drop n = bytes16 (frameCheck (bytes.take (bytes.length - 2))) ∧ src.toNat ≤ 30 then
      match parseBody kind (rest.take n) with
      | some body =>
        if destinationFits dest body ∧ claim = claimValue body.classValue (src.setWidth 5) then
          some { dest := dest, src := src.setWidth 5, body := body }
        else none
      | none => none
    else none
  | _ => none

end Sys2Proof.Machine
end

