-- ==== Sys2Proof/Machine/Flags.lean ====
section
/-!
DEFINITION. The event flags, their bits, the level flags and IRQ_N (09, section 9.4).
-/

namespace Sys2Proof.Machine

open Sys2Proof

/-- The bit of a latched flag in EVT_FLAGS (09, register map). -/
def EventFlag.bit : EventFlag → Nat
  | .chEnd n => n.val
  | .chErr n => 8 + n.val
  | .stationState => 16
  | .hostNoticeDone => 17
  | .cmdRefused => 18
  | .overrun => 19

def EventFlag.mask (f : EventFlag) : Word := 1#32 <<< f.bit

/-- The bits of the latched flags: 5-0, 13-8, 19-16. -/
def latchedBits : Word := 0x000F3F3F#32

/-- The bits of every flag, latched or level. -/
def flagBits : Word := 0x030F3F3F#32

/-- A latched flag is set by its event, and a flag already set stays set (R190). -/
def State.raise (f : EventFlag) (s : State) : State :=
  { s with host := { s.host with latched := s.host.latched ||| f.mask } }

/-- `raise` when the condition holds. -/
def State.raiseIf (p : Bool) (f : EventFlag) (s : State) : State := if p then s.raise f else s

/-- A latched flag reads set. -/
def State.flag (s : State) (f : EventFlag) : Bool := s.host.latched.getLsbD f.bit

/-- NOTICE_WAITING: the Notice Queue holds an entry (R96). -/
def State.noticeWaiting (s : State) : Bool := !s.notices.queue.isEmpty

/-- ROSTER_CHANGED: some change flag is set (R127). -/
def State.rosterChanged (s : State) : Bool := s.member.roster.toList.any (·.changed)

/-- EVT_FLAGS as it reads: the latched flags with the two level flags. -/
def State.eventFlags (s : State) : Word :=
  s.host.latched ||| (if s.noticeWaiting then 1#32 <<< 24 else 0) ||| (if s.rosterChanged then 1#32 <<< 25 else 0)

/-- IRQ_N is asserted while a flag is set whose enable is set, and never while RESET_N is low (R191, R196). -/
def State.irqAsserted (s : State) : Bool := !s.host.resetLow && (s.eventFlags &&& s.host.enables) != 0

end Sys2Proof.Machine
end

