-- ==== Sys2Proof/Machine/Operands.lean ====
section
/-!
DEFINITION. The operand forms: the fields of register words and of COMMAND (09, register map; R185, R188).
-/

namespace Sys2Proof.Machine

open Sys2Proof

/-- The channel a channel command names; 6 and 7 name none (R188). -/
def channelOperand (op : BitVec 3) : Option ChannelNo := if h : op.toNat < 6 then some ⟨op.toNat, h⟩ else none

/-- The least multiple-of-4 part of a field: the map does not name the low two bits (R185). -/
def clearLow2 {n : Nat} (x : BitVec n) : BitVec n := (x >>> 2) <<< 2

/-! ## Descriptor words (100H + 20H n) -/

def Direction.ofBit (b : Bool) : Direction := if b then .push else .pull
def AddrMode.ofBit (b : Bool) : AddrMode := if b then .fixed else .increment
def Priority.ofBit (b : Bool) : Priority := if b then .high else .low
def TriggerSource.ofBits (b : BitVec 2) : TriggerSource :=
  if b = 0 then .host else if b = 1 then .line0 else if b = 2 then .line1 else .notice

/-- Writes word `w` of a descriptor; bits the map does not name are ignored (R185). -/
def Descriptor.writeWord (d : Descriptor) (w : Fin 8) (v : Word) : Descriptor :=
  match w with
  | 0 => { d with
      direction := .ofBit (v.getLsbD 0), remoteMode := .ofBit (v.getLsbD 1), localMode := .ofBit (v.getLsbD 2)
      priority := .ofBit (v.getLsbD 3), reload := v.getLsbD 4, endNotice := v.getLsbD 5, endIrq := v.getLsbD 6
      errIrq := v.getLsbD 7, triggerSource := .ofBits (v.extractLsb' 8 2), depthCode := v.extractLsb' 12 2
      retryLimit := v.extractLsb' 16 3 }
  | 1 => { d with peer := v.extractLsb' 0 5 }
  | 2 => { d with remote := v.extractLsb' 0 24 }
  | 3 => { d with localAddr := v }
  | 4 => { d with length := v.extractLsb' 0 24 }
  | 5 => { d with segSize := v.extractLsb' 0 9 }
  | 6 => { d with triggerCode := v.extractLsb' 0 16, triggerStation := v.extractLsb' 16 5 }
  | 7 => { d with endNoticeCode := v.extractLsb' 0 16 }

/-- The depth, 1-4 (R185). -/
def Descriptor.depth (d : Descriptor) : Nat := d.depthCode.toNat + 1

/-! ## Window words (080H + 10H n) -/

/-- Writes word `w` of a window; base, size and local base keep multiples of 4 only (R65, R185). -/
def Window.writeWord (x : Window) (w : Fin 4) (v : Word) : Window :=
  match w with
  | 0 => { x with base := clearLow2 (v.extractLsb' 0 24), access := v.extractLsb' 28 2, enable := v.getLsbD 31 }
  | 1 => { x with size := clearLow2 (v.extractLsb' 0 25) }
  | 2 => { x with localBase := clearLow2 v }
  | 3 => { x with sources := v.extractLsb' 0 31 }

/-! ## Offsets of the registers a locked write records (R186) -/

def offsetStnNumber : BitVec 10 := 0x000
def offsetTiming : BitVec 10 := 0x008
def offsetHnSend : BitVec 10 := 0x038
def offsetWindow (n : Fin 8) (w : Fin 4) : BitVec 10 := BitVec.ofNat 10 (0x080 + 0x10 * n.val + 4 * w.val)
def offsetDescriptor (n : ChannelNo) (w : Fin 8) : BitVec 10 := BitVec.ofNat 10 (0x100 + 0x20 * n.val + 4 * w.val)

/-! ## Words on the local bus (R176) -/

/-- The word of four bytes, the byte of the lowest address on D7-D0. -/
def wordOfBytes (b0 b1 b2 b3 : Byte) : Word := b3 ++ b2 ++ b1 ++ b0

/-- The words of a payload, in address order; a rest of fewer than four bytes is no word (R176). -/
def wordsOfBytes : List Byte → List Word
  | b0 :: b1 :: b2 :: b3 :: rest => wordOfBytes b0 b1 b2 b3 :: wordsOfBytes rest
  | _ => []

/-- The bytes of words, in address order (R176). -/
def bytesOfWords (ws : List Word) : List Byte :=
  ws.flatMap fun w => [w.extractLsb' 0 8, w.extractLsb' 8 8, w.extractLsb' 16 8, w.extractLsb' 24 8]

end Sys2Proof.Machine
end

