-- ==== Sys2Proof/Machine/Ops.lean ====
section
/-!
DEFINITION. The named operations over the blocks' state: reading and writing a channel, an entry, a roster entry; counters;
the Local Memory Port's waiting requests; letting go of a frame that may be claimed for or sent; the tracker's transitions.
-/

namespace Sys2Proof.Machine

open Sys2Proof

/-! ## Reading and writing the tables -/

def allChannels : List ChannelNo := [0, 1, 2, 3, 4, 5]

def allTags : List Tag :=
  [0, 1, 2, 3, 4, 5, 6, 7, 8, 9, 10, 11, 12, 13, 14, 15, 16, 17, 18, 19, 20, 21, 22, 23, 24, 25, 26, 27, 28, 29, 30, 31]

/-- Applies a function to every place of a table. -/
def mapTable {α : Type} {n : Nat} (f : α → α) (v : Vector α n) : Vector α n :=
  ⟨(v.toList.map f).toArray, by simp⟩

def State.channel (s : State) (c : ChannelNo) : Channel := s.channels.get c

def State.setChannel (s : State) (c : ChannelNo) (x : Channel) : State :=
  { s with channels := s.channels.set c.val x c.isLt }

def State.modifyChannel (s : State) (c : ChannelNo) (f : Channel → Channel) : State := s.setChannel c (f (s.channel c))

def State.mapChannels (s : State) (f : Channel → Channel) : State := { s with channels := mapTable f s.channels }

def State.entry (s : State) (t : Tag) : Entry := s.tracker.entries.get t

def State.setEntry (s : State) (t : Tag) (e : Entry) : State :=
  { s with tracker := { s.tracker with entries := s.tracker.entries.set t.val e t.isLt } }

/-- Takes a tag out of the QUEUED order. -/
def State.dequeueTag (s : State) (t : Tag) : State :=
  { s with tracker := { s.tracker with queued := s.tracker.queued.filter (· ≠ t) } }

/-- The roster entry of a station; number 31 has none and reads ABSENT (R120). -/
def State.rosterEntry (s : State) (n : StationNo) : RosterEntry :=
  if h : n.toNat < 31 then s.member.roster.get ⟨n.toNat, h⟩ else {}

def State.setRoster (s : State) (n : StationNo) (e : RosterEntry) : State :=
  if h : n.toNat < 31 then { s with member := { s.member with roster := s.member.roster.set n.toNat e h } } else s

def Presence.isPresent : Presence → Bool
  | .absent => false
  | .present _ => true

/-- The roster holds the station PRESENT. -/
def State.isPresent (s : State) (n : StationNo) : Bool := (s.rosterEntry n).presence.isPresent

/-- A request may be allocated to the peer: PRESENT without its leaving flag (R39). -/
def State.peerUsable (s : State) (n : StationNo) : Bool := s.isPresent n && !(s.rosterEntry n).leaving

/-- The length of a deadline and of a quarantine, µs (R43, R46). -/
def State.responseTime (s : State) : Micros := s.member.tResp.toNat * Config.responseUnit

/-- The heartbeat interval, µs (R107). -/
def State.heartbeatTime (s : State) : Micros := s.member.tHb.toNat * Config.heartbeatUnit

/-- A 16-bit counter saturates at 65,535 (R168). -/
def saturatingSucc (x : BitVec 16) : BitVec 16 := if x = 0xFFFF then x else x + 1

def State.countBadFrame (s : State) : State := { s with rx := { s.rx with badFrame := saturatingSucc s.rx.badFrame } }
def State.countStale (s : State) : State := { s with rx := { s.rx with stale := saturatingSucc s.rx.stale } }
def State.countDropped (s : State) : State := { s with rx := { s.rx with dropped := saturatingSucc s.rx.dropped } }

/-! ## Local Memory Port: waiting requests (R170, R171, R178) -/

/-- A request has joined: a FREE port asks for the local bus (R170). -/
def Port.asks (p : Port) : Port := if p.state = .free then { p with state := .requesting } else p

/-- Some request waits. -/
def Port.anyWaiting (p : Port) : Bool := p.landing.isSome || p.service.isSome || !p.fetches.isEmpty

/-- The end of a burst: the port releases LM_REQ_N and asks again if a request waits (R171). -/
def Port.released (p : Port) : Port := { p with state := if p.anyWaiting then .requesting else .free }

/-- The burst in progress, of this requester, is given the cancelled mark (R178). -/
def Port.cancel (p : Port) (r : Requester) : Port :=
  match p.state with
  | .burst b => if b.requester = r then { p with state := .burst { b with cancelled := true } } else p
  | _ => p

def State.requestLanding (s : State) (r : BurstRequest) : State :=
  { s with port := Port.asks { s.port with landing := some r } }

def State.requestService (s : State) (r : BurstRequest) : State :=
  { s with port := Port.asks { s.port with service := some r } }

/-- A fetch joins the end of the fetch list (R170). -/
def State.requestFetch (s : State) (c : ChannelNo) (r : BurstRequest) : State :=
  { s with port := Port.asks { s.port with fetches := s.port.fetches ++ [(c, r)] } }

/-- Withdraws a landing: the waiting request leaves, a burst in progress is cancelled (R57, R178). -/
def State.withdrawLanding (s : State) : State := { s with port := { s.port.cancel .landing with landing := none } }

/-- Withdraws the engine's request (R84, R178). -/
def State.withdrawService (s : State) : State := { s with port := { s.port.cancel .service with service := none } }

/-- Withdraws a channel's fetch; the fetches behind it keep their order (R16, R178). -/
def State.withdrawFetch (s : State) (c : ChannelNo) : State :=
  let p := s.port.cancel (.fetch c)
  { s with port := { p with fetches := p.fetches.filter (·.1 ≠ c) } }

/-- Address of word `j` of a burst (R174, R175). -/
def BurstRequest.addr (r : BurstRequest) (j : Nat) : Word :=
  match r.mode with
  | .increment => r.first + BitVec.ofNat 32 (4 * j)
  | .fixed => r.first

/-- The word transfer in progress of a burst (R174). -/
def Burst.current (b : Burst) : WordTransfer :=
  { dir := b.req.dir, addr := b.req.addr b.done, data := b.req.data.getD b.done 0 }

/-- A completed word transfer of a write is in local RAM (R174, R177). -/
def State.wordWritten (s : State) (w : WordTransfer) : State :=
  match w.dir with
  | .write => { s with ramWrites := s.ramWrites ++ [(w.addr, w.data)] }
  | .read => s

/-! ## Link Access Unit: the end of a send, and letting go of a frame (R134, R135, R140, R146) -/

/-- What every end of a transmission does to the level pointers and the spent flag, however it ends (R134, R135). -/
def State.afterSend (s : State) (f : FrameRef) : State :=
  match f with
  | .entry t =>
    let e := s.entry t
    let l := { s.link with spent := true }
    match e.kind, e.owner with
    | .notice, _ => { s with link := l }
    | _, .host => { s with link := l }
    | _, .channel c =>
      match (s.channel c).desc.priority with
      | .high => { s with link := { l with highPtr := c } }
      | .low => { s with link := { l with lowPtr := c } }
  | _ => s

/-- The unit stops driving: WAITING with no chosen frame, the idle measure restarted. -/
def State.stopDriving (s : State) : State := { s with link := { s.link with unit := .waiting, idle := 0 } }

/-- The receiver skips the rest of a transmission that has ended for it (R153, R166). For a send of the station's own that is cut
short or ends garbled, that it does so in that step, LEAVE in LISTENING included, and not at a later recessive fill bit, is the
model's choice (DESIGN CHOICE, log entry 25). -/
def State.rxSkip (s : State) : State :=
  if s.rx.state = .framing then { s with rx := { s.rx with state := .skipping, inProgress := none } } else s

/-- The station's own send is cut short (R146); the receiver leaves FRAMING with it (log entry 25). -/
def State.cutShort (s : State) (f : FrameRef) : State := ((s.afterSend f).stopDriving).rxSkip

/-- The producer lets go of frame `f`: a claim for it is abandoned (R140), a send of it is cut short (R146). -/
def State.letGo (s : State) (f : FrameRef) : State :=
  match s.link.unit with
  | .waiting => s
  | .claiming g => if g = f then s.stopDriving else s
  | .sending g => if g = f then s.cutShort f else s

/-- Any claim or send of the station stops (R117, R149, R150). -/
def State.silence (s : State) : State :=
  match s.link.unit with
  | .waiting => s
  | .claiming _ => s.stopDriving
  | .sending f => s.cutShort f

/-! ## Request Tracker: transitions of one entry -/

/-- An entry that becomes FREE keeps its fields, and its marks and timers end (R34, R35). -/
def Entry.freed (e : Entry) : Entry :=
  { e with state := .free, sendingMark := false, landingMark := false, deadline := none, quarantine := none }

/-- LIVE to ABANDONED: the deadline runs on (R47). -/
def Entry.abandon (e : Entry) : Entry := { e with state := .abandoned, landingMark := false }

/-- To QUARANTINED with its timer started (R44, R46). -/
def Entry.quarantined (e : Entry) (us : Micros) : Entry :=
  { e with state := .quarantined, sendingMark := false, landingMark := false, deadline := none, quarantine := some us }

/-- The landing of a frame for the entry ends without counting: the port's request is withdrawn and the frame leaves the
head of the Receive Buffer (R57, R163). Nothing happens where no landing is in progress. -/
def State.endLanding (s : State) (t : Tag) : State :=
  if (s.entry t).landingMark then
    let s := s.withdrawLanding
    { s with rx := { s.rx with buffer := s.rx.buffer.tail } }
  else s

/-- The fetch of a QUEUED WRITE entry that is freed goes with it (R16, R178). -/
def State.dropFetch (s : State) (e : Entry) : State :=
  match e.kind, e.owner with
  | .write, .channel c => (s.withdrawFetch c).modifyChannel c fun ch => { ch with payload := none }
  | _, _ => s

/-- A QUEUED entry becomes FREE: its frame is withdrawn, or cut short if it is being sent (R42, R58). -/
def State.freeQueued (s : State) (t : Tag) : State :=
  let e := s.entry t
  let s := (s.letGo (.entry t)).dropFetch e
  (s.setEntry t e.freed).dequeueTag t

/-- The owner of an entry releases it (R42, R47). -/
def State.releaseEntry (s : State) (t : Tag) : State :=
  match (s.entry t).state with
  | .queued => s.freeQueued t
  | .live => (s.endLanding t).setEntry t (s.entry t).abandon
  | _ => s

/-- A LIVE or ABANDONED entry goes to QUARANTINED; a landing for it is ended (R44, R54, R58). -/
def State.quarantineEntry (s : State) (t : Tag) : State :=
  (s.endLanding t).setEntry t ((s.entry t).quarantined s.responseTime)

/-- The entry becomes FREE after its final answer or its quarantine (R46, R51, R52, R56). -/
def State.freeEntry (s : State) (t : Tag) : State := s.setEntry t (s.entry t).freed

/-- The owner holds a request that has not been answered: QUEUED or LIVE. -/
def Entry.held (e : Entry) (o : Owner) : Bool := e.owner = o && (e.state = .queued || e.state = .live)

/-- Releases every QUEUED and LIVE entry of an owner (R23, R101). -/
def State.releaseOwner (s : State) (o : Owner) : State :=
  allTags.foldl (fun s t => if (s.entry t).held o then s.releaseEntry t else s) s

/-- The owner has a QUEUED entry (R13, R14). -/
def State.ownsQueued (s : State) (o : Owner) : Bool :=
  allTags.any fun t => (s.entry t).owner = o && (s.entry t).state = .queued

/-- The entry whose landing is in progress, if any. -/
def State.landingTag (s : State) : Option Tag := allTags.find? fun t => (s.entry t).landingMark

/-- The lowest-numbered FREE entry (R36). -/
def State.lowestFree (s : State) : Option Tag := allTags.find? fun t => (s.entry t).state = .free

/-- No entry is QUEUED, LIVE or ABANDONED (R61). -/
def State.trackerQuiet (s : State) : Bool :=
  allTags.all fun t => (s.entry t).state = .free || (s.entry t).state = .quarantined

end Sys2Proof.Machine
end

