-- ==== Sys2Proof/Machine/Transfers.lean ====
section
/-!
DEFINITION. What a channel and the Host Notice Slot do with triggers, tags and results (01; 02 section 2.2; 04 sections 4.3, 4.4).
-/

namespace Sys2Proof.Machine

open Sys2Proof

/-! ## Ends of a transfer (R23, R26, R27) -/

/-- The channel goes OFF: records, notice record, flags and fetched payload are cleared; front, cut offset, remaining length
and addresses stay (R9, R23). -/
def Channel.ended (ch : Channel) (code : TermCode) (reason : Option RefuseReason) : Channel :=
  { ch with
    state := .off, code := code, reason := reason, latch := false, pause := false, waiting := false
    records := [], notice := none, payload := none }

/-- An error end, or an abort (R23, R28): the entries are released, the channel goes OFF, CH_ERR is set if enabled (R27). -/
def State.endChannel (s : State) (c : ChannelNo) (code : TermCode) (reason : Option RefuseReason) : State :=
  let s := s.releaseOwner (.channel c)
  (s.modifyChannel c fun ch => ch.ended code reason).raiseIf (s.channel c).desc.errIrq (.chErr c)

/-- Back to ARMED with the transfer's position restored (R26). -/
def Channel.reloaded (ch : Channel) : Channel :=
  { ch with
    state := .armed, code := .normal, reason := none, waiting := false, front := 0, cutOffset := 0
    remaining := ch.desc.length.toNat, curRemote := ch.desc.remote, curLocal := ch.desc.localAddr
    records := [], notice := none, payload := none }

/-- A NORMAL end (R26, R27). -/
def State.normalEnd (s : State) (c : ChannelNo) : State :=
  (s.modifyChannel c fun ch => if ch.desc.reload then ch.reloaded else ch.ended .normal none).raiseIf
    (s.channel c).desc.endIrq (.chEnd c)

/-- Every byte is done: NOTIFYING with the end notice on, a NORMAL end otherwise (R24). -/
def State.transferEnd (s : State) (c : ChannelNo) : State :=
  let ch := s.channel c
  if ch.front = ch.desc.length.toNat then
    if ch.desc.endNotice then
      s.modifyChannel c fun ch => { ch with state := .notifying, waiting := false, notice := some {} }
    else s.normalEnd c
  else s

/-! ## Segment outcomes (R17 to R22) -/

/-- Takes the DONE records at the front out of the window (R17). -/
def popDone : Nat → List SegRecord → Nat × List SegRecord
  | front, [] => (front, [])
  | front, r :: rs => if r.offset = front ∧ r.state = .done then popDone (front + r.length) rs else (front, r :: rs)

/-- The current remote address with INCREMENT: the descriptor's plus the front (R33). Where the sum is 1000000H, which R2
allows at the last byte, it does not fit the 24-bit field and the spec states no value: a free value (DESIGN CHOICE, log
entry 21). -/
def Descriptor.remoteAfter (d : Descriptor) (front : Nat) : BitVec 24 :=
  if d.remote.toNat + front < Config.remoteSpace then d.remote + BitVec.ofNat 24 front
  else Config.remotePastTop d.remote front

/-- The front advances over DONE records; the remaining length and the current addresses follow it (R17, R33). The current
remote address at the top of the remote space is a free value (log entry 21). -/
def Channel.advance (ch : Channel) : Channel :=
  let p := popDone ch.front ch.records
  if p.1 = ch.front then ch
  else
    { ch with
      front := p.1, records := p.2, remaining := ch.desc.length.toNat - p.1
      curRemote := match ch.desc.remoteMode with
        | .increment => ch.desc.remoteAfter p.1
        | .fixed => ch.desc.remote
      curLocal := match ch.desc.localMode with
        | .increment => ch.desc.localAddr + BitVec.ofNat 32 p.1
        | .fixed => ch.desc.localAddr }

/-- Rewrites the record OUTSTANDING with the tag. -/
def Channel.updateRecord (ch : Channel) (t : Tag) (f : SegRecord → SegRecord) : Channel :=
  { ch with records := ch.records.map fun r => if r.state = .outstanding t then f r else r }

/-- The record OUTSTANDING with the tag. -/
def Channel.recordOf (ch : Channel) (t : Tag) : Option SegRecord := ch.records.find? fun r => r.state = .outstanding t

/-- A segment completes (R17); the last byte's completion ends the transfer (R24). -/
def State.completeSegment (s : State) (c : ChannelNo) (t : Tag) : State :=
  (s.modifyChannel c fun ch => (ch.updateRecord t fun r => { r with state := .done }).advance).transferEnd c

/-- A timeout or a data error of a segment: re-issued within the retry limit, the end with `code` beyond it (R18). -/
def State.failSegment (s : State) (c : ChannelNo) (t : Tag) (r : SegRecord) (code : TermCode) : State :=
  if r.attempts + 1 ≤ (s.channel c).desc.retryLimit.toNat then
    s.modifyChannel c fun ch => ch.updateRecord t fun r => { r with state := .pending, attempts := r.attempts + 1 }
  else s.endChannel c code none

/-- A BUSY refusal of a segment: backoff, or the end at the sixteenth (R19). -/
def State.busySegment (s : State) (c : ChannelNo) (t : Tag) (r : SegRecord) : State :=
  if r.busy + 1 ≤ Config.busyLimit then
    s.modifyChannel c fun ch => ch.updateRecord t fun r =>
      { r with state := .backoff (Config.backoffUnit * (r.busy + 1)), busy := r.busy + 1 }
  else s.endChannel c .refused (some .busy)

def State.segmentResult (s : State) (c : ChannelNo) (t : Tag) (r : SegRecord) (res : Result) : State :=
  match res with
  | .completed => s.completeSegment c t
  | .timeout => s.failSegment c t r .timeout
  | .dataError => s.failSegment c t r .dataError
  | .refused .busy => s.busySegment c t r
  | .refused reason => s.endChannel c .refused (some reason)
  | .peerLost => s.endChannel c .peerLost none
  | .localFault => s.endChannel c .localFault none

/-! ## End notice outcomes (R25) -/

def State.setNotice (s : State) (c : ChannelNo) (n : NoticeRecord) : State :=
  s.modifyChannel c fun ch => { ch with notice := some n }

/-- BUSY or NOTICE_FULL for an end notice: backoff, or the end at the sixteenth (R25). -/
def State.busyNotice (s : State) (c : ChannelNo) (n : NoticeRecord) (reason : RefuseReason) : State :=
  if n.busy + 1 ≤ Config.busyLimit then
    s.setNotice c { n with phase := .backoff (Config.backoffUnit * (n.busy + 1)), busy := n.busy + 1 }
  else s.endChannel c .noticeFailed (some reason)

/-- A NOTICE entry draws no DATA_ERROR and no LOCAL_FAULT (R49, R99), so these change nothing. -/
def State.noticeResult (s : State) (c : ChannelNo) (n : NoticeRecord) (res : Result) : State :=
  match res with
  | .completed => s.normalEnd c
  | .timeout =>
    if n.attempts + 1 ≤ (s.channel c).desc.retryLimit.toNat then
      s.setNotice c { n with phase := .waiting, attempts := n.attempts + 1 }
    else s.endChannel c .noticeFailed none
  | .refused .busy => s.busyNotice c n .busy
  | .refused .noticeFull => s.busyNotice c n .noticeFull
  | .refused reason => s.endChannel c .noticeFailed (some reason)
  | .peerLost => s.endChannel c .noticeFailed none
  | .dataError | .localFault => s

/-- A channel takes a result for the record or notice record that holds the tag; with none it changes nothing (R60). -/
def State.channelResult (s : State) (c : ChannelNo) (t : Tag) (res : Result) : State :=
  let ch := s.channel c
  match ch.notice with
  | some n => if n.phase = .tagged t then s.noticeResult c n res else s
  | none =>
    match ch.recordOf t with
    | some r => s.segmentResult c t r res
    | none => s

/-! ## Host Notice Slot (R97 to R101) -/

def State.setSlot (s : State) (x : Slot) : State := { s with notices := { s.notices with slot := x } }

/-- The slot reaches DONE with its result and sets HOST_NOTICE_DONE (R99, R100). -/
def State.finishSlot (s : State) (result : SlotResult) (reason : Option RefuseReason) : State :=
  (s.setSlot { s.notices.slot with state := .done, result := result, reason := reason }).raise .hostNoticeDone

/-- BUSY or NOTICE_FULL for the host notice (R99). -/
def State.busySlot (s : State) (reason : RefuseReason) : State :=
  let x := s.notices.slot
  let s := s.setSlot { x with busy := x.busy + 1 }
  if x.busy + 1 ≤ Config.busyLimit then
    s.setSlot { x with busy := x.busy + 1, state := .sending (.backoff (Config.backoffUnit * (x.busy + 1))) }
  else s.finishSlot .refused (some reason)

/-- The slot takes a result for the tag it holds (R99); DATA_ERROR and LOCAL_FAULT cannot reach it. -/
def State.slotResult (s : State) (t : Tag) (res : Result) : State :=
  let x := s.notices.slot
  if x.state = .sending (.tagged t) then
    match res with
    | .completed => s.finishSlot .acked none
    | .refused .busy => s.busySlot .busy
    | .refused .noticeFull => s.busySlot .noticeFull
    | .refused reason => s.finishSlot .refused (some reason)
    | .timeout =>
      if x.attempts + 1 ≤ Config.hostRetryLimit then
        s.setSlot { x with attempts := x.attempts + 1, state := .sending .waiting }
      else (s.setSlot { x with attempts := x.attempts + 1 }).finishSlot .timeout none
    | .peerLost => s.finishSlot .peerLost none
    | .dataError | .localFault => s
  else s

/-- A result goes to the owner named in the entry, in the step of the entry's transition (R60). -/
def State.report (s : State) (o : Owner) (t : Tag) (res : Result) : State :=
  match o with
  | .channel c => s.channelResult c t res
  | .host => s.slotResult t res

/-! ## Triggers and starts (R4 to R7) -/

/-- A trigger reaches a channel (R5, R6); an OFF channel ignores it (R4). -/
def State.trigger (s : State) (c : ChannelNo) : State :=
  let ch := s.channel c
  match ch.state with
  | .off => s
  | .armed =>
    if ch.latch then (s.modifyChannel c fun ch => { ch with overrun := true }).raise .overrun
    else s.modifyChannel c fun ch => { ch with latch := true }
  | .running | .paused | .notifying => (s.modifyChannel c fun ch => { ch with overrun := true }).raise .overrun

/-- The four start conditions of R7 hold for an ARMED channel. -/
def State.startDue (s : State) (c : ChannelNo) : Bool :=
  let ch := s.channel c
  ch.state = .armed && ch.latch && s.member.state = .online && s.holdDepth = 0 && !ch.pause

/-- The start (R7). -/
def Channel.started (ch : Channel) : Channel :=
  { ch with state := .running, latch := false, code := .none, reason := none, cutOffset := ch.front }

def State.startIfDue (s : State) (c : ChannelNo) : State :=
  if s.startDue c then s.modifyChannel c Channel.started else s

/-! ## Cutting and asking (R11 to R15, R25, R37, R98) -/

def SegRecord.isPending (r : SegRecord) : Bool := r.state = .pending

def SegRecord.isOutstanding (r : SegRecord) : Bool :=
  match r.state with
  | .outstanding _ => true
  | _ => false

/-- In BACKOFF with its timer expired: it becomes PENDING at its expiry event (R19). -/
def SegRecord.isExpired (r : SegRecord) : Bool := r.state = .backoff 0

def Channel.outstandingCount (ch : Channel) : Nat := (ch.records.filter SegRecord.isOutstanding).length

/-- Bytes are left to cut, a record is free, and none is PENDING or in BACKOFF with its timer expired (R11); the fourth
condition is `mayIssue`. -/
def Channel.canCut (ch : Channel) : Bool :=
  decide (ch.cutOffset < ch.desc.length.toNat) && decide (ch.records.length < Config.segmentRecords) &&
    !ch.records.any fun r => r.isPending || r.isExpired

/-- The conditions of R13 for issuing. -/
def State.mayIssue (s : State) (c : ChannelNo) : Bool :=
  let ch := s.channel c
  ch.state = .running && s.member.state = .online && s.holdDepth = 0 && !s.ownsQueued (.channel c) &&
    decide (ch.outstandingCount < ch.desc.depth)

/-- A channel has a request to ask a tag for: a segment (R13), or its end notice, which LEAVING admits too (R25, R30). -/
def State.wantsTag (s : State) (c : ChannelNo) : Bool :=
  let ch := s.channel c
  match ch.state with
  | .running => s.mayIssue c && (ch.records.any SegRecord.isPending || ch.canCut)
  | .notifying =>
    (s.member.state = .online || s.member.state = .leaving) && s.holdDepth = 0 && !ch.pause &&
      !s.ownsQueued (.channel c) &&
      match ch.notice with
      | some n => n.phase = .waiting
      | none => false
  | _ => false

/-- Cuts the next segment into a free record (R11). -/
def Channel.cut (ch : Channel) : Channel :=
  let len := min ch.desc.segSize.toNat (ch.desc.length.toNat - ch.cutOffset)
  { ch with
    records := ch.records ++ [{ state := .pending, offset := ch.cutOffset, length := len }]
    cutOffset := ch.cutOffset + len }

/-- A channel asks for a tag when it has a request to issue, cutting one when R11 lets it, and withdraws when it
has none (R13, R15, R37). -/
def State.askChannel (s : State) (c : ChannelNo) : State :=
  if s.wantsTag c then
    s.modifyChannel c fun ch =>
      { (if ch.state = .running && ch.canCut then ch.cut else ch) with waiting := true }
  else s.modifyChannel c fun ch => { ch with waiting := false }

/-- The slot waits for a tag, in ONLINE and LEAVING (R98). -/
def State.slotWaits (s : State) : Bool :=
  s.notices.slot.state = .sending .waiting && (s.member.state = .online || s.member.state = .leaving)

/-! ## Allocation (R36, R38, R39) -/

/-- The entry becomes QUEUED at the end of the QUEUED order (R36). -/
def State.queueEntry (s : State) (t : Tag) (e : Entry) : State :=
  let s := s.setEntry t { e with state := .queued }
  { s with tracker := { s.tracker with queued := s.tracker.queued ++ [t] } }

/-- The request addresses of a segment (R12). -/
def Descriptor.segmentRemote (d : Descriptor) (offset : Nat) : BitVec 24 :=
  match d.remoteMode with
  | .increment => d.remote + BitVec.ofNat 24 offset
  | .fixed => d.remote

def Descriptor.segmentLocal (d : Descriptor) (offset : Nat) : Word :=
  match d.localMode with
  | .increment => d.localAddr + BitVec.ofNat 32 offset
  | .fixed => d.localAddr

/-- The entry of a segment's request (R15, R35, R36): the READ-only fields are zero for a WRITE. -/
def Descriptor.segmentEntry (d : Descriptor) (c : ChannelNo) (r : SegRecord) : Entry :=
  match d.direction with
  | .pull =>
    { kind := .read, owner := .channel c, peer := d.peer, remote := d.segmentRemote r.offset, length := r.length
      localAddr := d.segmentLocal r.offset, localMode := d.localMode }
  | .push =>
    { kind := .write, owner := .channel c, peer := d.peer, remote := d.segmentRemote r.offset, length := r.length }

/-- The payload fetch of a PUSH segment (R16, R169). -/
def Descriptor.fetchRequest (d : Descriptor) (r : SegRecord) : BurstRequest :=
  { dir := .read, mode := d.localMode, first := d.segmentLocal r.offset, count := r.length / 4 }

/-- The first PENDING record, the one with the lowest offset, becomes OUTSTANDING with the tag (R13, R15). -/
def issueFirst (t : Tag) : List SegRecord → List SegRecord
  | [] => []
  | r :: rs => if r.isPending then { r with state := .outstanding t } :: rs else r :: issueFirst t rs

/-- The record receives the tag and its entry is QUEUED; a PUSH asks for its payload (R15, R16). -/
def State.issueSegment (s : State) (c : ChannelNo) (t : Tag) (r : SegRecord) : State :=
  let d := (s.channel c).desc
  let s := s.modifyChannel c fun ch =>
    { ch with waiting := false, payload := none, records := issueFirst t ch.records }
  let s := s.queueEntry t (d.segmentEntry c r)
  match d.direction with
  | .pull => s
  | .push => s.requestFetch c (d.fetchRequest r)

/-- The end notice receives the tag (R25, R35). -/
def State.issueNotice (s : State) (c : ChannelNo) (t : Tag) (n : NoticeRecord) : State :=
  let d := (s.channel c).desc
  let s := s.modifyChannel c fun ch => { ch with waiting := false, notice := some { n with phase := .tagged t } }
  s.queueEntry t { kind := .notice, owner := .channel c, peer := d.peer }

/-- The peer of the request an owner asks a tag for. -/
def State.peerOf (s : State) (o : Owner) : StationNo :=
  match o with
  | .channel c => (s.channel c).desc.peer
  | .host => s.notices.slot.peer

/-- An owner is told at its allocation that its peer is not usable, and ends without the tag (R15, R25, R39, R99). -/
def State.dropOwner (s : State) (o : Owner) : State :=
  match o with
  | .channel c => s.endChannel c (if (s.channel c).state = .notifying then .noticeFailed else .peerAbsent) none
  | .host => s.finishSlot .peerLost none

/-- A waiting channel is offered the FREE tag `t` (R15, R25, R39). -/
def State.offerChannel (s : State) (c : ChannelNo) (t : Tag) : State :=
  let ch := s.channel c
  match ch.state with
  | .notifying =>
    match ch.notice with
    | some n => if s.peerUsable ch.desc.peer then s.issueNotice c t n else s.dropOwner (.channel c)
    | none => s
  | _ =>
    match ch.records.find? SegRecord.isPending with
    | some r => if s.peerUsable ch.desc.peer then s.issueSegment c t r else s.dropOwner (.channel c)
    | none => s

/-- The waiting slot is offered the FREE tag `t` (R98, R99). -/
def State.offerSlot (s : State) (t : Tag) : State :=
  let x := s.notices.slot
  if s.peerUsable x.peer then
    (s.setSlot { x with state := .sending (.tagged t) }).queueEntry t { kind := .notice, owner := .host, peer := x.peer }
  else s.dropOwner .host

/-- The owner is in the waiting set. A channel whose conditions have lapsed has withdrawn (R37). -/
def State.waits (s : State) (o : Owner) : Bool :=
  match o with
  | .channel c => (s.channel c).waiting && s.wantsTag c
  | .host => s.slotWaits

/-- Offers the lowest FREE tag to an owner that waits; with none FREE it stays in the waiting set (R36, R37). -/
def State.grantTag (s : State) (o : Owner) : State :=
  match s.lowestFree with
  | none => s
  | some t =>
    if s.waits o then
      match o with
      | .channel c => s.offerChannel c t
      | .host => s.offerSlot t
    else s

/-- The fixed order of the waiting owners (R38). -/
def ownerOrder : List Owner :=
  [.host, .channel 0, .channel 1, .channel 2, .channel 3, .channel 4, .channel 5]

/-- Offers FREE tags to the waiting owners in the fixed order (R38). -/
def State.allocateTags (s : State) : State := ownerOrder.foldl State.grantTag s

def State.startChannels (s : State) : State := allChannels.foldl State.startIfDue s

def State.askChannels (s : State) : State := allChannels.foldl State.askChannel s

/-- The waiting owners that `free` FREE tags reach in the fixed order and whose peers are not usable: each takes no tag, which
goes to the next (R38, R39). -/
def State.unusableOwners (s : State) : Nat → List Owner → List Owner
  | 0, _ => []
  | _, [] => []
  | free + 1, o :: os =>
    if s.waits o then
      if s.peerUsable (s.peerOf o) then s.unusableOwners free os else o :: s.unusableOwners (free + 1) os
    else s.unusableOwners (free + 1) os

def State.freeCount (s : State) : Nat := (allTags.filter fun t => (s.entry t).state = .free).length

/-- Ends the waiting owners that the FREE tags reach and whose peers are not usable (R38, R39). Such an end may end a landing,
and so make another head due for dispatch (R57, R163). -/
def State.dropUnusable (s : State) : State := (s.unusableOwners s.freeCount ownerOrder).foldl State.dropOwner s

end Sys2Proof.Machine
end

