-- ==== Sys2Proof/Machine/Service.lean ====
section
/-!
DEFINITION. The Inbound Service: windows, arrival checks, service engine, Response Queue and Data Slot (03), and the Notice
Unit's handling of arriving notices (04, sections 4.1 and 4.2).
-/

namespace Sys2Proof.Machine

open Sys2Proof

/-! ## Windows (R66, R67) -/

/-- The window holds the remote address (R67). -/
def Window.holds (w : Window) (x : Nat) : Bool :=
  w.enable && decide (w.base.toNat ≤ x) && decide (x < w.base.toNat + w.size.toNat)

/-- An enabled window passes the tests of JOIN; a disabled one is not tested (R66). -/
def Window.valid (w : Window) : Bool :=
  !w.enable ||
    (decide (4 ≤ w.size.toNat) && decide (w.base.toNat + w.size.toNat ≤ Config.remoteSpace) && w.access ≠ 3)

/-- Two windows share no remote address, unless one is disabled (R66). -/
def Window.disjoint (a b : Window) : Bool :=
  !a.enable || !b.enable || decide (a.base.toNat + a.size.toNat ≤ b.base.toNat) ||
    decide (b.base.toNat + b.size.toNat ≤ a.base.toNat)

/-- Every pair of a list, an earlier one against each later one. -/
def pairwiseDisjoint : List Window → Bool
  | [] => true
  | w :: ws => ws.all w.disjoint && pairwiseDisjoint ws

/-- The Window Table passes the tests of JOIN (R66). -/
def windowsValid (ws : List Window) : Bool := ws.all Window.valid && pairwiseDisjoint ws

/-- The local address a remote address resolves to, modulo 2^32 (R67). -/
def Window.resolve (w : Window) (x : Nat) : Word := w.localBase + BitVec.ofNat 32 (x - w.base.toNat)

/-- The source set and the access permit the request (R67, R72). -/
def Window.permits (w : Window) (src : StationNo) (write : Bool) : Bool :=
  w.sources.getLsbD src.toNat && (w.access = 2 || w.access = (if write then 1 else 0))

/-! ## Response Queue (R74, R81) -/

def State.responsesFull (s : State) : Bool := decide (Config.responseQueueSize ≤ s.inbound.responses.length)

/-- Places a frame at the tail of the Response Queue. -/
def State.placeResponse (s : State) (r : Response) : State :=
  { s with inbound := { s.inbound with responses := s.inbound.responses ++ [r] } }

/-- A refusal is placed, or dropped and counted when the Response Queue is full (R74, R90). -/
def State.placeOrDrop (s : State) (r : Response) : State :=
  if s.responsesFull then s.countDropped else s.placeResponse r

/-! ## Arrival checks (R68 to R74) -/

/-- The format check (R70). -/
def formatOk (write : Bool) (addr : BitVec 24) (len : BitVec 16) (payload : List Byte) : Bool :=
  len.toNat ≠ 0 && len.toNat % 4 = 0 && decide (len.toNat ≤ (if write then 64 else 256)) && addr.toNat % 4 = 0 &&
    (!write || payload.length = len.toNat)

/-- The verdict of the five arrival checks in their order (R68 to R73): the reason of the first that fails, or the window's
resolved local address. -/
def State.arrivalCheck (s : State) (src : StationNo) (write : Bool) (addr : BitVec 24) (len : BitVec 16)
    (payload : List Byte) : RefuseReason ⊕ Word :=
  if s.member.state ≠ .online then .inl .notOnline
  else if !formatOk write addr len payload then .inl .badRequest
  else
    match s.inbound.windows.toList.find? (·.holds addr.toNat) with
    | none => .inl .outOfWindow
    | some w =>
      if !w.holds (addr.toNat + len.toNat - 1) then .inl .outOfWindow
      else if !w.permits src write then .inl .denied
      else if Config.inboundQueueSize ≤ s.inbound.queue.length then .inl .busy
      else .inr (w.resolve addr.toNat)

/-- A dispatched request is refused or appended to the Inbound Queue (R68, R73, R74). -/
def State.requestArrives (s : State) (src : StationNo) (t : Tag) (write : Bool) (addr : BitVec 24) (len : BitVec 16)
    (payload : List Byte) : State :=
  match s.arrivalCheck src write addr len payload with
  | .inl reason => s.placeOrDrop { dest := src, tag := t, answer := .refuse reason }
  | .inr localAddr =>
    { s with inbound := { s.inbound with
        queue := s.inbound.queue ++ [{ src := src, tag := t, write := write, remote := addr, length := len.toNat,
                                       localAddr := localAddr, payload := payload }] } }

/-! ## The service engine (R76 to R80) -/

def State.setEngine (s : State) (e : Engine) : State := { s with inbound := { s.inbound with engine := e } }

/-- Bytes of the chunk at an offset of a read (R78). -/
def InRequest.chunkLength (r : InRequest) (offset : Nat) : Nat := min Config.chunkBytes (r.length - offset)

/-- The write burst of the head's payload (R77). -/
def InRequest.writeBurst (r : InRequest) : BurstRequest :=
  { dir := .write, mode := .increment, first := r.localAddr, count := r.length / 4, data := wordsOfBytes r.payload }

/-- The read burst of a chunk (R78). -/
def InRequest.chunkBurst (r : InRequest) (offset : Nat) : BurstRequest :=
  { dir := .read, mode := .increment, first := r.localAddr + BitVec.ofNat 32 offset, count := r.chunkLength offset / 4 }

/-- An IDLE engine takes the head of a non-empty queue (R76). -/
def State.engineTake (s : State) : State :=
  match s.inbound.engine, s.inbound.queue with
  | .idle, r :: _ =>
    if r.write then (s.setEngine .writing).requestService r.writeBurst
    else (s.setEngine (.reading 0)).requestService (r.chunkBurst 0)
  | _, _ => s

/-- The head leaves the Inbound Queue and the engine is IDLE (R77, R79). -/
def State.headDone (s : State) : State :=
  { s with inbound := { s.inbound with queue := s.inbound.queue.tail, engine := .idle } }

/-- The engine's final answer is placed, or held in ANSWERING while the Response Queue is full (R77, R79, R80). -/
def State.engineAnswer (s : State) (a : Response) : State :=
  if s.responsesFull then s.setEngine (.answering a) else (s.placeResponse a).headDone

/-- A held answer is placed when the Response Queue has room (R80). -/
def State.placeHeldAnswer (s : State) : State :=
  match s.inbound.engine with
  | .answering a => s.engineAnswer a
  | _ => s

/-- The chunk's words go into the Data Slot as a READ_DATA frame (R78). -/
def State.chunkRead (s : State) (r : InRequest) (offset : Nat) (words : List Word) : State :=
  let next := offset + Config.chunkBytes
  { s with inbound := { s.inbound with
      dataSlot := some { dest := r.src, tag := r.tag, offset := offset, last := decide (r.length ≤ next),
                         payload := bytesOfWords words }
      engine := .reading next } }

/-- The Data Slot's frame has been sent: the next chunk is asked for, or the read ends (R78, R79, R82). -/
def State.dataSent (s : State) : State :=
  let s := { s with inbound := { s.inbound with dataSlot := none } }
  match s.inbound.engine, s.inbound.queue with
  | .reading next, r :: _ => if next < r.length then s.requestService (r.chunkBurst next) else s.headDone
  | _, _ => s

/-- The engine stops: its burst is withdrawn or cancelled, a held answer is discarded, IDLE (R84). -/
def State.engineStop (s : State) : State := s.withdrawService.setEngine .idle

/-- Empties the Data Slot; a claim or send of its frame stops (R84). -/
def State.emptyDataSlot (s : State) : State :=
  let s := s.letGo .dataSlot
  { s with inbound := { s.inbound with dataSlot := none } }

/-- The purge of a peer's inbound state (R84). -/
def State.purgeInbound (s : State) (p : StationNo) : State :=
  let serving : Bool := s.inbound.engine ≠ .idle && (match s.inbound.queue with | r :: _ => r.src = p | [] => false)
  let s := if serving then s.engineStop else s
  let slotIs : Bool := match s.inbound.dataSlot with | some d => d.dest = p | none => false
  let s := if slotIs then s.emptyDataSlot else s
  let headIs : Bool := match s.inbound.responses with | r :: _ => r.dest = p | [] => false
  let s := if headIs then s.letGo .response else s
  { s with inbound := { s.inbound with
      queue := s.inbound.queue.filter (·.src ≠ p), responses := s.inbound.responses.filter (·.dest ≠ p) } }

/-- The Inbound Service is quiet (R85). -/
def State.inboundQuiet (s : State) : Bool :=
  s.inbound.queue.isEmpty && s.inbound.responses.isEmpty && s.inbound.dataSlot.isNone

/-! ## Arriving notices (R89 to R95) -/

/-- The channel is a trigger candidate for the notice (R92). -/
def Channel.candidate (ch : Channel) (src : StationNo) (code : BitVec 16) : Bool :=
  ch.state = .armed && ch.desc.triggerSource = .notice && !ch.latch && ch.desc.triggerCode = code &&
    (ch.desc.triggerStation = src || ch.desc.triggerStation = 31)

/-- The notice is appended with the next sequence number (R94, R95). -/
def State.appendNotice (s : State) (src : StationNo) (code : BitVec 16) : State :=
  let seq := s.notices.seq + 1
  { s with notices := { s.notices with
      queue := s.notices.queue ++ [{ src := src, code := code, seq := seq }], seq := seq } }

/-- The tests of R89 in their order. -/
def State.noticeArrives (s : State) (src : StationNo) (t : Tag) (code : BitVec 16) : State :=
  if s.member.state ≠ .online then s.placeOrDrop { dest := src, tag := t, answer := .refuse .notOnline }
  else if s.responsesFull then s.countDropped
  else
    match allChannels.find? fun c => (s.channel c).candidate src code with
    | some c => (s.modifyChannel c fun ch => { ch with latch := true }).placeResponse { dest := src, tag := t, answer := .ack }
    | none =>
      if s.notices.queue.length < Config.noticeQueueSize then
        (s.appendNotice src code).placeResponse { dest := src, tag := t, answer := .ack }
      else s.placeResponse { dest := src, tag := t, answer := .refuse .noticeFull }

end Sys2Proof.Machine
end

