-- ==== Sys2Proof/Machine/Membership.lean ====
section
/-!
DEFINITION. The Membership Unit: control list, purges when a peer is lost, roster updates, entry to OFFLINE, ONLINE and
CONFLICT, the drain (05), with the other blocks' part in each.
-/

namespace Sys2Proof.Machine

open Sys2Proof

/-! ## Peer loss (R58, R59, R84, R126) -/

/-- The purge of one entry by its state (R58). -/
def State.purgeEntry (s : State) (t : Tag) : State :=
  match (s.entry t).state with
  | .queued => s.freeQueued t
  | .live | .abandoned => s.quarantineEntry t
  | .free | .quarantined => s

/-- The tracker's purge of a peer: every entry naming it, then PEER_LOST for each that was QUEUED or LIVE, in ascending tag
order (R58, R59). -/
def State.purgeTracker (s : State) (p : StationNo) : State :=
  let lost := allTags.filter fun t =>
    (s.entry t).peer = p && ((s.entry t).state = .queued || (s.entry t).state = .live)
  let s' := allTags.foldl (fun s t => if (s.entry t).peer = p then s.purgeEntry t else s) s
  lost.foldl (fun s' t => s'.report (s.entry t).owner t .peerLost) s'

/-- The reports of a lost peer to the tracker and the Inbound Service (R126). -/
def State.peerLost (s : State) (p : StationNo) : State := (s.purgeTracker p).purgeInbound p

/-! ## The roster (R121 to R125) -/

/-- The entry becomes ABSENT: timer stopped, leaving flag clear, change flag set (R124, R125). -/
def RosterEntry.lost (e : RosterEntry) : RosterEntry := { e with presence := .absent, leaving := false, changed := true }

/-- A PRESENT peer becomes ABSENT, with its reports; an ABSENT one reports nothing (R124, R125, R126). -/
def State.becomeAbsent (s : State) (p : StationNo) : State :=
  if s.isPresent p then (s.setRoster p (s.rosterEntry p).lost).peerLost p else s

/-- The entry of a peer just heard: PRESENT with its timer at 0; `leaving` is the flag after the frame. The change flag is
set where the presence or the flag changed (R121, R122). -/
def RosterEntry.heard (e : RosterEntry) (leaving : Bool) : RosterEntry :=
  { presence := .present 0, leaving := leaving
    changed := e.changed || !e.presence.isPresent || (e.presence.isPresent && e.leaving != leaving) }

/-- The roster's update by a valid frame of another station (R121 to R124). -/
def State.rosterHears (s : State) (src : StationNo) (body : FrameBody) : State :=
  let e := s.rosterEntry src
  match body with
  | .leave => s.becomeAbsent src
  | .announce =>
    if s.isPresent src then
      (s.setRoster src { e.heard false with changed := true }).peerLost src
    else s.setRoster src (e.heard false)
  | .hello .leaving => s.setRoster src (e.heard true)
  | .hello .online => s.setRoster src (e.heard false)
  | _ => s.setRoster src (e.heard (e.presence.isPresent && e.leaving))

/-! ## Control list (R106, R107) -/

def State.setControl (s : State) (l : List ControlFrame) : State := { s with member := { s.member with control := l } }

def State.appendControl (s : State) (k : ControlKind) : State := s.setControl (s.member.control ++ [{ kind := k }])

def ControlKind.isHello : ControlKind → Bool
  | .hello _ _ => true
  | _ => false

/-- Takes the waiting frames that satisfy `p` out of the control list; a claim for the head, when it is one of them, is
abandoned. A frame being sent stays. -/
def State.withdrawControl (s : State) (p : ControlKind → Bool) : State :=
  let s := match s.member.control with
    | f :: _ => if p f.kind && !f.sending then s.letGo .control else s
    | [] => s
  s.setControl (s.member.control.filter fun f => f.sending || !p f.kind)

/-- The HELLOs another clean send withdraws (R107). -/
def ControlKind.byTimer : ControlKind → Bool
  | .hello _ b => b
  | _ => false

/-- A HELLO carrying ONLINE. -/
def ControlKind.helloOnline : ControlKind → Bool
  | .hello .online _ => true
  | _ => false

/-! ## Entry to OFFLINE and CONFLICT (R31, R62, R86, R101, R114, R117, R148, R150, R166, R181) -/

/-- A channel's part in the entry: RUNNING, PAUSED and NOTIFYING end with the code, the others stay (R31). -/
def Channel.stationEnds (code : TermCode) (ch : Channel) : Channel :=
  match ch.state with
  | .running | .paused | .notifying => ch.ended code none
  | .off | .armed => { ch with waiting := false }

/-- CH_ERR of each channel that ends, where enabled (R27, R31). -/
def State.raiseEnding (s : State) (c : ChannelNo) : State :=
  match (s.channel c).state with
  | .running | .paused | .notifying => s.raiseIf (s.channel c).desc.errIrq (.chErr c)
  | .off | .armed => s

/-- The Local Memory Port's requests are all withdrawn; a burst in progress runs on with the cancelled mark (R181). -/
def Port.withdrawAll (p : Port) : Port :=
  { p with
    landing := none, service := none, fetches := []
    state := match p.state with
      | .burst b => .burst { b with cancelled := true }
      | x => x }

/-- What entry to OFFLINE and entry to CONFLICT have in common: the pair falls silent, channels end with `code`, every entry
is FREE, the Inbound Service and the Receive Buffer are empty, a SENDING slot ends PEER_LOST, the timers stop. -/
def State.quiesce (s : State) (code : TermCode) : State :=
  let s := s.silence
  let s := allChannels.foldl State.raiseEnding s
  let s := s.mapChannels (Channel.stationEnds code)
  let s := { s with
    tracker := { entries := mapTable Entry.freed s.tracker.entries, queued := [] }
    inbound := { s.inbound with queue := [], responses := [], dataSlot := none, engine := .idle }
    rx := { s.rx with buffer := [] }
    port := s.port.withdrawAll
    member := { s.member with listen := none, heartbeat := .stopped, drain := none, control := [] } }
  match s.notices.slot.state with
  | .sending _ => s.finishSlot .peerLost none
  | _ => s

/-- The station state changes and STATION_STATE is set (R118). -/
def State.setStation (s : State) (st : StationState) (cause : ConflictCause) : State :=
  ({ s with member := { s.member with state := st, cause := cause } }).raise .stationState

/-- Entry to OFFLINE: channels end LEFT, the garble count is 0 (R31, R114, R148). -/
def State.enterOffline (s : State) : State :=
  let s := (s.quiesce .left).setStation .offline .none
  { s with link := { s.link with garble := 0 } }

/-- Entry to CONFLICT with its cause (R117). -/
def State.enterConflict (s : State) (cause : ConflictCause) : State := (s.quiesce .conflict).setStation .conflict cause

/-- Entry to ONLINE at the clean end of the ANNOUNCE (R110). -/
def State.enterOnline (s : State) : State :=
  let s := s.setStation .online .none
  { s with member := { s.member with listen := none, heartbeat := .running 0 } }

/-! ## The drain (R112, R113) -/

/-- The drain ends: its timer stops and the LEAVE joins the control list (R112). -/
def State.endDrain (s : State) : State :=
  ({ s with member := { s.member with drain := none } }).appendControl .leave

/-- In LEAVING, with the drain not ended, the tracker and the Inbound Service are quiet together (R112). -/
def State.drainDone (s : State) : Bool :=
  s.member.state = .leaving && s.member.drain.isSome && s.trackerQuiet && s.inboundQuiet

def State.checkDrain (s : State) : State := if s.drainDone then s.endDrain else s

/-- The Host Notice Slot at the drain limit: it releases its entry and ends PEER_LOST (R101). -/
def State.forceSlot (s : State) : State :=
  match s.notices.slot.state with
  | .sending _ => (s.releaseOwner .host).finishSlot .peerLost none
  | _ => s

/-- A channel at the drain limit: it ends LEFT if it owns a QUEUED or LIVE entry (R30). -/
def State.forceChannel (s : State) (c : ChannelNo) : State :=
  if allTags.any fun t => (s.entry t).held (.channel c) then s.endChannel c .left none else s

/-- The Inbound Service at the drain limit: everything is discarded but the frame being sent (R85, R113). A claim for a
discarded frame is abandoned (R140). -/
def State.forceInbound (s : State) : State :=
  let s := match s.link.unit with
    | .claiming .response => s.stopDriving
    | .claiming .dataSlot => s.stopDriving
    | _ => s
  let s := s.engineStop
  { s with inbound := { s.inbound with
      queue := [], responses := s.inbound.responses.filter (·.sending)
      dataSlot := s.inbound.dataSlot.filter (·.sending) } }

/-- The forced end of the drain (R113). -/
def State.forceDrain (s : State) : State :=
  let s := allChannels.foldl State.forceChannel s
  (s.forceSlot.forceInbound).endDrain

end Sys2Proof.Machine
end

