-- ==== Sys2Proof/Machine/Reception.lean ====
section
/-!
DEFINITION. Dispatch of the Receive Buffer's head (07, section 7.6), matching and landing of answers (02, sections 2.6 and
2.7), and `settle`: the steps inside the station that the rules place in the step of the event that makes them due.
-/

namespace Sys2Proof.Machine

open Sys2Proof

/-! ## Answers (R48 to R55) -/

/-- The frame's kind fits the entry's kind (R49). -/
def EntryKind.fits (k : EntryKind) (b : FrameBody) : Bool :=
  match b, k with
  | .readData .., .read => true
  | .ack _, .write | .ack _, .notice => true
  | .refuse .., _ => true
  | _, _ => false

/-- The answer matches the entry of its tag (R49). -/
def Entry.answers (e : Entry) (src : StationNo) (b : FrameBody) : Bool :=
  (e.state = .live || e.state = .abandoned) && e.peer = src && e.kind.fits b

/-- The head leaves the Receive Buffer. -/
def State.popBuffer (s : State) : State := { s with rx := { s.rx with buffer := s.rx.buffer.tail } }

/-- A final answer of a LIVE entry: the entry becomes FREE and its owner has the result (R51, R52, R56). -/
def State.finalAnswer (s : State) (t : Tag) (res : Result) : State :=
  (s.freeEntry t).report (s.entry t).owner t res

/-- ACK or REFUSE from the head of the buffer (R48 to R52). -/
def State.answerArrives (s : State) (src : StationNo) (t : Tag) (b : FrameBody) (res : Result) : State :=
  let e := s.entry t
  if e.answers src b then
    if e.state = .live then s.finalAnswer t res else s.freeEntry t
  else s.countStale

/-- The checks of R53 in their order: a data error, or none. -/
def Entry.dataError (e : Entry) (last : Bool) (offset p : Nat) : Bool :=
  offset ≠ e.received || decide (e.length < e.received + p) || (last && decide (e.received + p < e.length))

/-- The landing burst of a READ_DATA (R55, R169). -/
def Entry.landingBurst (e : Entry) (offset : Nat) (payload : List Byte) : BurstRequest :=
  { dir := .write, mode := e.localMode
    first := match e.localMode with
      | .increment => e.localAddr + BitVec.ofNat 32 offset
      | .fixed => e.localAddr
    count := payload.length / 4, data := wordsOfBytes payload }

/-- READ_DATA at the head of the buffer: stale, absorbed, a data error, or a landing that keeps it there (R48 to R55, R163). -/
def State.readDataArrives (s : State) (src : StationNo) (t : Tag) (last : Bool) (place : BitVec 6) (payload : List Byte) :
    State :=
  let e := s.entry t
  let offset := 4 * place.toNat
  if e.answers src (.readData t last place payload) then
    if e.state = .live then
      if e.dataError last offset payload.length then
        (s.popBuffer.quarantineEntry t).report e.owner t .dataError
      else (s.setEntry t { e with landingMark := true }).requestLanding (e.landingBurst offset payload)
    else if last then s.popBuffer.freeEntry t else s.popBuffer
  else s.popBuffer.countStale

/-- The head of the Receive Buffer goes to the block that owns its kind (R162). -/
def State.dispatchHead (s : State) : State :=
  match s.rx.buffer with
  | [] => s
  | f :: _ =>
    match f.body with
    | .readReq t a l => s.popBuffer.requestArrives f.src t false a l []
    | .writeReq t a l p => s.popBuffer.requestArrives f.src t true a l p
    | .notice t c => s.popBuffer.noticeArrives f.src t c
    | .readData t last place p => s.readDataArrives f.src t last place p
    | .ack t => s.popBuffer.answerArrives f.src t (.ack t) .completed
    | .refuse t r => s.popBuffer.answerArrives f.src t (.refuse t r) (.refused r)
    | .hello _ | .announce | .leave => s.popBuffer

/-- A head waits for dispatch: the buffer is not empty and no landing is in progress (R163). -/
def State.dispatchDue (s : State) : Bool := !s.rx.buffer.isEmpty && s.landingTag.isNone

/-! ## Settling -/

/-- Starts, and the engine's next head, where due (R7, R76). A held answer is not placed here: its place in the Response Queue
goes to whichever producer is taken first (R80, R91), so ENGINE_ANSWER_PLACED is an event of its own (log entry 22). -/
def State.settleOnce (s : State) : State := s.startChannels.engineTake

/-- The channels ask, and the owners end that the FREE tags reach and whose peers are not usable (R13, R39). -/
def State.askOwners (s : State) : State := s.askChannels.dropUnusable

/-- The end of a step: the tags it has left FREE, however many events in it freed them, go to the waiting owners at once, the
lowest to the first (R38), and a drain ends where that is due (R112). -/
def State.settleTags (s : State) : State := s.allocateTags.checkDrain

/-- Dispatches heads until none is due, at most `n` of them, with the starts and the engine's head before each; then the owners
ask, and where that leaves no head due the tags are allocated (R162, R38). That this is done in the step of the event, and its
order, are the model's reading (log entries 5 and 7). -/
def State.settleN : Nat → State → State
  | 0, s => s.settleOnce.askOwners.settleTags
  | n + 1, s =>
    let s := s.settleOnce
    if s.dispatchDue then settleN n s.dispatchHead
    else
      let s := s.askOwners
      if s.dispatchDue then settleN n s.dispatchHead else s.settleTags

/-- Fetches made in one step enter the fetch list in ascending channel number, behind those of earlier steps (R170); `old` is
the list before the step. -/
def orderFetches (old l : List (ChannelNo × BurstRequest)) : List (ChannelNo × BurstRequest) :=
  let made := l.filter fun x => !old.contains x
  (l.filter fun x => old.contains x) ++ allChannels.flatMap fun c => made.filter (·.1 = c)

def State.orderFetches (s : State) (old : List (ChannelNo × BurstRequest)) : State :=
  { s with port := { s.port with fetches := Machine.orderFetches old s.port.fetches } }

/-- Everything that is due in the step of an event; `old` is the fetch list before the step. A dispatch takes a frame from the
buffer or begins its landing, and the buffer holds 4 frames, so 8 rounds reach the end. -/
def State.settleFrom (s : State) (old : List (ChannelNo × BurstRequest)) : State :=
  (s.settleN (2 * Config.receiveBufferSize)).orderFetches old

/-- `settleFrom` for an event that has made no fetch itself. -/
def State.settle (s : State) : State := s.settleFrom s.port.fetches

/-! ## A heard frame (R159 to R161) -/

/-- The state admits the frame to the Receive Buffer (R160). -/
def admits (st : StationState) (b : FrameBody) : Bool :=
  match st with
  | .online | .leaving => true
  | .listening => b.classValue = 2
  | .offline | .conflict => false

/-- A valid frame is offered to the Receive Buffer (R160, R161). -/
def State.offerFrame (s : State) (f : Frame) : State :=
  if (f.dest = s.member.number.setWidth 8 || f.dest = 31) && admits s.member.state f.body then
    if s.rx.buffer.length < Config.receiveBufferSize then
      { s with rx := { s.rx with buffer := s.rx.buffer ++ [f] } }
    else s.countDropped
  else s

/-- What a valid frame does (R115, R159, R160). -/
def State.validFrame (s : State) (f : Frame) : State :=
  if f.src = s.member.number then
    match s.member.state with
    | .listening | .online | .leaving => s.enterConflict .duplicate
    | .offline | .conflict => s
  else (s.rosterHears f.src f.body).offerFrame f

/-- A heard transmission ends and is judged (R157, R159). The receiver goes to SKIPPING (R153). -/
def State.judge (s : State) (claim : BitVec 7) (bytes : List Byte) : State :=
  let s := { s with rx := { s.rx with state := .skipping, inProgress := none } }
  match judgeFrame claim bytes with
  | none => s.countBadFrame
  | some f => (s.validFrame f).settle

end Sys2Proof.Machine
end

