-- ==== Sys2Proof/WellFormed.lean ====
section
/-!
DEFINITION. Which terms of Instr are events of their row.
The operand types already keep channels, tags, windows and stations in range, so three rows remain.
-/

namespace Sys2Proof

/-- The command codes of the register map (09, coded fields). -/
def knownCommandCode (code : BitVec 8) : Bool :=
  (1 ≤ code.toNat && code.toNat ≤ 8) || (0x10 ≤ code.toNat && code.toNat ≤ 0x15)

/-- The word offsets a write can act on: COMMAND and the registers of section 9.2. -/
def writableRegister (a : BitVec 8) : Bool :=
  let off := 4 * a.toNat
  off = 0x000 || off = 0x008 || off = 0x00C || off = 0x014 || off = 0x018 || off = 0x038 || off = 0x048 ||
    (0x080 ≤ off && off < 0x100) || (0x100 ≤ off && off < 0x1C0)

/-- What a receiver can have read by the end of a transmission (R153): it stops at byte 3 when the size is outside 6-76,
and no later than the byte the size names otherwise. -/
def framedBytes (bytes : List Byte) : Bool :=
  match bytes with
  | _ :: _ :: _ :: size :: rest =>
    if 6 ≤ size.toNat ∧ size.toNat ≤ 76 then rest.length + 4 ≤ size.toNat else rest.isEmpty
  | _ => true

/-- A term of Instr is an event of its row while RESET_N is high (R185, R188, R153). With RESET_N low every write is
OTHER_REGISTER_WRITE's (R196), and every other row but RESET_RELEASE finds the station taking no event. -/
def Instr.wellFormed : Instr → Bool
  | .unknownCommandCode code _ => !knownCommandCode code
  | .otherRegisterWrite a _ => !writableRegister a
  | .frameJudged _ bytes => framedBytes bytes
  | .join _ | .leave _ | .stationReset _ | .holdUp _ | .holdDown _ | .sendNotice _ | .popNotice _ | .clearCounters _
  | .chEnable _ | .chStart _ | .chPause _ | .chResume _ | .chAbort _ | .chDisable _
  | .stnNumberWrite _ | .timingWrite _ | .windowTableWrite .. | .descriptorWrite .. | .hnSendWrite _
  | .evtFlagsWrite _ | .evtEnableWrite _ | .rosterChangeWrite _ | .hardwareReset | .resetRelease _ | .triggerEdge _
  | .channelStart _ | .segmentIssue _ | .tagAllocation | .frameGap | .roundGap | .claimStart | .claimLost | .claimWon
  | .sendCleanEnd | .sendGarbled | .frameDispatch | .deadlineExpiry _ | .quarantineExpiry _
  | .segmentBackoffExpiry .. | .endNoticeBackoffExpiry _ | .hostNoticeBackoffExpiry | .listenTimerExpiry
  | .heartbeatTimerExpiry | .drainTimerExpiry | .drainEnd | .silenceTimerExpiry _ | .busGrant | .burstEnd _
  | .busError | .engineAnswerPlaced | .startBit | .wordTransferEnd _ => true

end Sys2Proof
end

