-- ==== Sys2Proof/Machine/HostCommands.lean ====
section
/-!
DEFINITION. The meanings of the commands written to COMMAND (09, section 9.3): the station's and the channels' commands.
Each is decoded, tested and taken or refused in its step (R188).
-/

namespace Sys2Proof.Machine

open Sys2Proof

/-- The outcome of every meaning. -/
abbrev Step := Host.Outcome State Fault Refusal

/-- An event that reaches the station: with RESET_N held low the station takes none (R196). -/
def State.takes (s : State) (f : State → State) : Step := .next (if s.host.resetLow then s else f s)

/-! ## Refusals (R186, R188, R189) -/

/-- A refusal overwrites the record and sets CMD_REFUSED. -/
def State.recordRefusal (s : State) (r : RefusalRecord) : State :=
  ({ s with host := { s.host with refusal := r } }).raise .cmdRefused

/-- A refused command: its code and operand as written, and the reason (R189). -/
def State.refuse (s : State) (code : BitVec 8) (op : BitVec 3) (reason : RefusalReason) : State :=
  s.recordRefusal { kind := .command, code := code, operand := op, reason := reason }

/-- A channel command: an operand of 6 or 7 is refused before the command's own tests (R188). -/
def State.channelCommand (s : State) (code : BitVec 8) (op : BitVec 3) (f : ChannelNo → State → State) : State :=
  match channelOperand op with
  | some c => f c s
  | none => s.refuse code op .badOperand

/-! ## Station commands -/

/-- The configuration tests of JOIN (R108). -/
def State.configValid (s : State) : Bool :=
  s.member.number ≠ 31 && s.member.tResp ≠ 0 && s.member.tHb ≠ 0 && windowsValid s.inbound.windows.toList

/-- LISTENING with the listen timer at 4 × T_hb (R108). -/
def State.startListening (s : State) : State :=
  let s := s.setStation .listening .none
  { s with member := { s.member with listen := some (Config.listenIntervals * s.heartbeatTime) } }

/-- JOIN (R108). -/
def State.join (op : BitVec 3) (s : State) : State :=
  if s.member.state ≠ .offline then s.refuse 0x01 op .wrongState
  else if s.configValid then s.startListening
  else s.refuse 0x01 op .configInvalid

def execJoin (op : BitVec 3) (s : State) : Step := s.takes (State.join op)

/-- ONLINE to LEAVING: the drain timer starts, a waiting HELLO carrying ONLINE gives way to one carrying LEAVING (R107, R111). -/
def State.startLeaving (s : State) : State :=
  let s := s.setStation .leaving .none
  let s := { s with member := { s.member with drain := some (Config.drainBudgets * s.responseTime) } }
  (s.withdrawControl ControlKind.helloOnline).appendControl (.hello .leaving false)

/-- LEAVE (R111); what the entry to LEAVING makes due, the end of the drain included, is done in its step (R112). -/
def State.leave (op : BitVec 3) (s : State) : State :=
  match s.member.state with
  | .online => s.startLeaving.settle
  | .listening => s.enterOffline
  | .offline | .leaving | .conflict => s.refuse 0x02 op .wrongState

def execLeave (op : BitVec 3) (s : State) : Step := s.takes (State.leave op)

/-- The word in transfer at a reset is completed on the bus (R182). -/
def Port.reset (p : Port) : Port :=
  { tail := match p.state with
      | .burst b => some b.current
      | _ => p.tail }

/-- A channel after station reset: the descriptor, front, remaining length and current addresses are kept (R32, R198). -/
def Channel.stationReset (ch : Channel) : Channel :=
  { desc := ch.desc, front := ch.front, remaining := ch.remaining, curRemote := ch.curRemote, curLocal := ch.curLocal }

/-- STATION_RESET: every block at its reset value, with what R198 keeps. -/
def State.stationReset (s : State) : State :=
  { channels := mapTable Channel.stationReset s.channels
    inbound := { windows := s.inbound.windows }
    member := { number := s.member.number, tResp := s.member.tResp, tHb := s.member.tHb }
    port := s.port.reset
    host := { enables := s.host.enables, resetLow := false }
    ramWrites := s.ramWrites
    pending := s.pending }

/-- The operand is not read (R198). -/
def execStationReset (_op : BitVec 3) (s : State) : Step := s.takes State.stationReset

/-- Every channel withdraws its request for a tag (R10, R37). -/
def State.withdrawWaiting (s : State) : State := s.mapChannels fun ch => { ch with waiting := false }

/-- HOLD_UP (R10). -/
def State.holdUp (op : BitVec 3) (s : State) : State :=
  if s.holdDepth < Config.holdLimit then ({ s with holdDepth := s.holdDepth + 1 }).withdrawWaiting
  else s.refuse 0x04 op .holdLimit

def execHoldUp (op : BitVec 3) (s : State) : Step := s.takes (State.holdUp op)

/-- HOLD_DOWN: at 0 every held channel takes up its work at once (R10). -/
def State.holdDown (op : BitVec 3) (s : State) : State :=
  if s.holdDepth = 0 then s.refuse 0x05 op .holdLimit
  else if s.holdDepth = 1 then ({ s with holdDepth := 0 }).settle
  else { s with holdDepth := s.holdDepth - 1 }

def execHoldDown (op : BitVec 3) (s : State) : Step := s.takes (State.holdDown op)

/-- The slot is SENDING (R97). -/
def SlotState.isSending : SlotState → Bool
  | .sending _ => true
  | .idle | .done => false

/-- The slot takes up its notice with cleared counts (R97). -/
def Slot.startSending (x : Slot) : Slot :=
  { x with state := .sending .waiting, result := .none, reason := none, attempts := 0, busy := 0 }

/-- SEND_NOTICE: state and slot are tested before the peer; the slot then asks for a tag (R97, R98). -/
def State.sendNotice (op : BitVec 3) (s : State) : State :=
  let x := s.notices.slot
  if s.member.state ≠ .online || x.state.isSending then s.refuse 0x06 op .wrongState
  else if x.peer = 31 || x.peer = s.member.number then s.refuse 0x06 op .badOperand
  else (s.setSlot x.startSending).settle

def execSendNotice (op : BitVec 3) (s : State) : Step := s.takes (State.sendNotice op)

/-- POP_NOTICE (R96). -/
def State.popNotice (op : BitVec 3) (s : State) : State :=
  match s.notices.queue with
  | [] => s.refuse 0x07 op .queueEmpty
  | _ :: rest => { s with notices := { s.notices with queue := rest } }

def execPopNotice (op : BitVec 3) (s : State) : Step := s.takes (State.popNotice op)

/-- CLEAR_COUNTERS (R194). -/
def State.clearCounters (s : State) : State := { s with rx := { s.rx with badFrame := 0, stale := 0, dropped := 0 } }

/-- The operand is not read (R194). -/
def execClearCounters (_op : BitVec 3) (s : State) : Step := s.takes State.clearCounters

/-! ## Channel commands -/

/-- The conditions of R2, in the table's order. -/
def Descriptor.valid (d : Descriptor) (own : StationNo) : Bool :=
  (d.length.toNat ≠ 0 && d.length.toNat % 4 = 0) &&
  (d.remote.toNat % 4 = 0 && d.localAddr.toNat % 4 = 0) &&
  (d.segSize.toNat % 4 = 0 && decide (4 ≤ d.segSize.toNat) &&
    decide (d.segSize.toNat ≤ (match d.direction with | .pull => 256 | .push => 64))) &&
  (d.peer ≠ 31 && d.peer ≠ own) &&
  (d.remoteMode = .fixed || decide (d.remote.toNat + d.length.toNat ≤ Config.remoteSpace))

/-- The channel goes from OFF to ARMED (R3). -/
def Channel.enabled (ch : Channel) : Channel :=
  { ch with
    state := .armed, latch := false, pause := false, overrun := false, waiting := false, front := 0
    remaining := ch.desc.length.toNat, curRemote := ch.desc.remote, curLocal := ch.desc.localAddr
    code := .none, reason := none, records := [], notice := none, payload := none }

/-- CH_ENABLE (R2, R3). -/
def State.chEnable (op : BitVec 3) (c : ChannelNo) (s : State) : State :=
  let ch := s.channel c
  if ch.state ≠ .off then s.refuse 0x10 op .wrongState
  else if ch.desc.valid s.member.number then s.modifyChannel c Channel.enabled
  else (s.modifyChannel c fun ch => { ch with code := .badDescriptor }).refuse 0x10 op .descriptorInvalid

def execChEnable (op : BitVec 3) (s : State) : Step := s.takes fun s => s.channelCommand 0x10 op (State.chEnable op)

/-- The channel starts if the last of its conditions has come to hold; a start's own consequences are in the same step (R7). -/
def State.startAndSettle (s : State) (c : ChannelNo) : State := if s.startDue c then (s.startIfDue c).settle else s

/-- CH_START: a trigger to the channel (R4 to R7). -/
def State.chStart (op : BitVec 3) (c : ChannelNo) (s : State) : State :=
  if (s.channel c).state = .off then s.refuse 0x11 op .wrongState else (s.trigger c).startAndSettle c

def execChStart (op : BitVec 3) (s : State) : Step := s.takes fun s => s.channelCommand 0x11 op (State.chStart op)

/-- The pause flag is set; a RUNNING channel goes to PAUSED; a request for a tag is withdrawn (R8). -/
def Channel.paused (ch : Channel) : Channel :=
  { ch with state := if ch.state = .running then .paused else ch.state, pause := true, waiting := false }

/-- CH_PAUSE (R8). -/
def State.chPause (op : BitVec 3) (c : ChannelNo) (s : State) : State :=
  if (s.channel c).state = .off then s.refuse 0x12 op .wrongState else s.modifyChannel c Channel.paused

def execChPause (op : BitVec 3) (s : State) : Step := s.takes fun s => s.channelCommand 0x12 op (State.chPause op)

/-- The pause flag is cleared; a PAUSED channel returns to RUNNING (R9). -/
def Channel.resumed (ch : Channel) : Channel :=
  { ch with state := if ch.state = .paused then .running else ch.state, pause := false }

/-- CH_RESUME: what the cleared flag lets the channel do is done in its step; in RUNNING nothing changes (R9). -/
def State.chResume (op : BitVec 3) (c : ChannelNo) (s : State) : State :=
  match (s.channel c).state with
  | .off => s.refuse 0x13 op .wrongState
  | .running => s
  | .armed | .paused | .notifying => (s.modifyChannel c Channel.resumed).settle

def execChResume (op : BitVec 3) (s : State) : Step := s.takes fun s => s.channelCommand 0x13 op (State.chResume op)

/-- CH_ABORT: the end ABORTED with its releases; freed tags go to waiting owners in the same step (R28, R23, R38). -/
def State.chAbort (op : BitVec 3) (c : ChannelNo) (s : State) : State :=
  if (s.channel c).state = .off then s.refuse 0x14 op .wrongState else (s.endChannel c .aborted none).settle

def execChAbort (op : BitVec 3) (s : State) : Step := s.takes fun s => s.channelCommand 0x14 op (State.chAbort op)

/-- ARMED to OFF without an event flag; code and refuse reason are kept (R29). -/
def Channel.disabled (ch : Channel) : Channel := { ch with state := .off, latch := false, pause := false, waiting := false }

/-- CH_DISABLE (R29). -/
def State.chDisable (op : BitVec 3) (c : ChannelNo) (s : State) : State :=
  if (s.channel c).state = .armed then s.modifyChannel c Channel.disabled else s.refuse 0x15 op .wrongState

def execChDisable (op : BitVec 3) (s : State) : Step := s.takes fun s => s.channelCommand 0x15 op (State.chDisable op)

/-! ## Unknown codes -/

/-- A code not in the list is refused with BAD_OPERAND (R188). A known code is another row's command. -/
def execUnknownCommandCode (code : BitVec 8) (op : BitVec 3) (s : State) : Step :=
  if knownCommandCode code then .refused (.notThisRow "UNKNOWN_COMMAND_CODE")
  else s.takes fun s => s.refuse code op .badOperand

end Sys2Proof.Machine
end

