-- ==== Sys2Proof/Machine/InternalSteps.lean ====
section
/-!
DEFINITION. The meanings of the table's steps inside the station: CHANNEL_START, SEGMENT_ISSUE, TAG_ALLOCATION,
FRAME_DISPATCH, DRAIN_END, ENGINE_ANSWER_PLACED. The rules place the first five in the step of the event that makes them due,
and `settle` takes them there (log entry 5); as a command of its own each performs the same operation where it is due.
ENGINE_ANSWER_PLACED is only an event of its own (log entry 22).
-/

namespace Sys2Proof.Machine

open Sys2Proof

/-- CHANNEL_START (R7): the started channel then cuts and issues. -/
def execChannelStart (n : ChannelNo) (s : State) : Step := s.takes fun s => s.startAndSettle n

/-- SEGMENT_ISSUE (R13): a RUNNING channel that may issue cuts or picks its next PENDING record and asks for a tag, which a
FREE entry answers at once (R36). -/
def State.segmentIssue (n : ChannelNo) (s : State) : State :=
  if (s.channel n).state = .running && s.wantsTag n then ((s.askChannel n).allocateTags).settleFrom s.port.fetches else s

def execSegmentIssue (n : ChannelNo) (s : State) : Step := s.takes (State.segmentIssue n)

/-- TAG_ALLOCATION (R38): FREE tags go to the waiting owners in the fixed order. -/
def State.tagAllocation (s : State) : State :=
  if s.lowestFree.isSome && ownerOrder.any s.waits then s.allocateTags.settleFrom s.port.fetches else s

def execTagAllocation (s : State) : Step := s.takes State.tagAllocation

/-- FRAME_DISPATCH (R162): the head that is due goes to its block. -/
def State.frameDispatch (s : State) : State := if s.dispatchDue then s.dispatchHead.settle else s

def execFrameDispatch (s : State) : Step := s.takes State.frameDispatch

/-- DRAIN_END (R112). -/
def execDrainEnd (s : State) : Step := s.takes State.checkDrain

/-- ENGINE_ANSWER_PLACED (R80): the held answer takes a free place of the Response Queue, unless another producer has taken it
first; the engine then takes its new head (R76), and a drain may end. -/
def State.engineAnswerPlaced (s : State) : State :=
  match s.inbound.engine with
  | .answering _ => if s.responsesFull then s else s.placeHeldAnswer.settle
  | _ => s

def execEngineAnswerPlaced (s : State) : Step := s.takes State.engineAnswerPlaced

end Sys2Proof.Machine
end

