-- ==== Sys2Proof/Machine/Selector.lean ====
section
/-!
DEFINITION. The transmit selector (06, section 6.2), the chosen frame's class and contents (R40, R131 to R133, R139, R141).
-/

namespace Sys2Proof.Machine

open Sys2Proof

/-- A tracker entry's frame is ready and its sending mark is clear (06, producer table; R131). -/
def State.entryReady (s : State) (t : Tag) : Bool :=
  let e := s.entry t
  e.state = .queued && !e.sendingMark &&
    match e.kind, e.owner with
    | .write, .channel c => (s.channel c).payload.isSome
    | .write, .host => false
    | _, _ => true

/-- The ready NOTICE entry that stands first in the QUEUED order (R132). -/
def State.noticeCandidate (s : State) : Option Tag :=
  s.tracker.queued.find? fun t => (s.entry t).kind = .notice && s.entryReady t

/-- The ready request of a channel (R133). -/
def State.requestOf (s : State) (c : ChannelNo) : Option Tag :=
  s.tracker.queued.find? fun t => (s.entry t).kind ≠ .notice && (s.entry t).owner = .channel c && s.entryReady t

/-- The channels from the one after the pointer, wrapping from CH5 to CH0 (R133). -/
def searchOrder (p : ChannelNo) : List ChannelNo := [p + 1, p + 2, p + 3, p + 4, p + 5, p]

/-- The choice within one priority level (R133). -/
def State.levelCandidate (s : State) (level : Priority) (p : ChannelNo) : Option Tag :=
  (searchOrder p).findSome? fun c => if (s.channel c).desc.priority = level then s.requestOf c else none

/-- The choice within the REQUEST class: HIGH before LOW (R133). -/
def State.requestCandidate (s : State) : Option Tag :=
  (s.levelCandidate .high s.link.highPtr).or (s.levelCandidate .low s.link.lowPtr)

/-- The control list's head, when its sending mark is clear. -/
def State.controlCandidate (s : State) : Option FrameRef :=
  match s.member.control with
  | f :: _ => if f.sending then none else some .control
  | [] => none

/-- The RESPONSE class: the Response Queue head, and the Data Slot when the queue is empty (R132). -/
def State.responseCandidate (s : State) : Option FrameRef :=
  match s.inbound.responses, s.inbound.dataSlot with
  | r :: _, _ => if r.sending then none else some .response
  | [], some d => if d.sending then none else some .dataSlot
  | [], none => none

/-- NOTICE then REQUEST, neither while the spent flag is set (R132, R135). -/
def State.trackerCandidate (s : State) : Option FrameRef :=
  if s.link.spent then none else (s.noticeCandidate.or s.requestCandidate).map .entry

/-- The frame the selector chooses, as the station state lets it send (R106, R132, R148). -/
def State.candidate (s : State) : Option FrameRef :=
  match s.member.state with
  | .online | .leaving => (s.responseCandidate.or s.controlCandidate).or s.trackerCandidate
  | .listening => s.controlCandidate
  | .offline | .conflict => none

/-! ## The frame itself -/

def ControlKind.body : ControlKind → FrameBody
  | .announce => .announce
  | .hello st _ => .hello st
  | .leave => .leave

def Answer.body (t : Tag) : Answer → FrameBody
  | .ack => .ack t
  | .refuse r => .refuse t r

/-- The frame of a tracker entry (R40, R98, R103). -/
def State.entryBody (s : State) (t : Tag) : FrameBody :=
  let e := s.entry t
  match e.kind with
  | .read => .readReq t e.remote (BitVec.ofNat 16 e.length)
  | .write =>
    .writeReq t e.remote (BitVec.ofNat 16 e.length)
      (match e.owner with
        | .channel c => (s.channel c).payload.getD []
        | .host => [])
  | .notice =>
    .notice t
      (match e.owner with
        | .channel c => (s.channel c).desc.endNoticeCode
        | .host => s.notices.slot.code)

/-- The frame a producer holds, formed with the station's own number as source (R40, R81, R82, R106). -/
def State.frameOf (s : State) (f : FrameRef) : Option Frame :=
  let own := s.member.number
  match f with
  | .response => s.inbound.responses.head?.map fun r => ⟨r.dest.setWidth 8, own, r.answer.body r.tag⟩
  | .dataSlot =>
    s.inbound.dataSlot.map fun d => ⟨d.dest.setWidth 8, own, .readData d.tag d.last (BitVec.ofNat 6 (d.offset / 4)) d.payload⟩
  | .control => s.member.control.head?.map fun c => ⟨31, own, c.kind.body⟩
  | .entry t => some ⟨(s.entry t).peer.setWidth 8, own, s.entryBody t⟩

/-- The claim value of a producer's frame (R139). -/
def State.claimOf (s : State) (f : FrameRef) : BitVec 7 :=
  claimValue (((s.frameOf f).map (·.body.classValue)).getD 0) s.member.number

end Sys2Proof.Machine
end

