-- ==== Sys2Proof/Machine/LinkEvents.lean ====
section
/-!
DEFINITION. The meanings of the link's events: idle gaps, claims, the ends of sends, start bits and heard frames (06, 07).
-/

namespace Sys2Proof.Machine

open Sys2Proof

/-! ## Idle gaps and activity (R129, R136, R153) -/

/-- The frame gap: the receiver is IDLE again and the own mark clears (R153, R158). -/
def State.frameGap (s : State) : State :=
  if Config.frameGap ≤ s.link.idle && s.rx.state = .skipping then
    { s with rx := { s.rx with state := .idle, ownMark := false } }
  else s

def execFrameGap (s : State) : Step := s.takes State.frameGap

/-- The round gap clears the spent flag (R136). -/
def State.roundGap (s : State) : State :=
  if Config.roundGap ≤ s.link.idle then { s with link := { s.link with spent := false } } else s

def execRoundGap (s : State) : Step := s.takes State.roundGap

/-- Activity on the pair restarts the idle measure; after the frame gap it is a start bit and is framed (R129, R153). -/
def State.startBit (s : State) : State :=
  let rx := if s.rx.state = .idle && Config.frameGap ≤ s.link.idle then
      { s.rx with state := .framing, inProgress := some {} }
    else s.rx
  { s with rx := rx, link := { s.link with idle := 0 } }

def execStartBit (s : State) : Step := s.takes State.startBit

/-! ## Claims (R138 to R141) -/

/-- A WAITING unit with a candidate claims once the frame gap has passed on an idle medium (R138). The start bit it drives is
activity, and its own receiver frames the transmission (R152, R158). -/
def State.claimStart (s : State) : State :=
  if s.link.unit = .waiting && s.rx.state = .idle && Config.frameGap ≤ s.link.idle then
    match s.candidate with
    | some f =>
      { s with
        link := { s.link with unit := .claiming f, idle := 0 }
        rx := { s.rx with state := .framing, inProgress := some {} } }
    | none => s
  else s

def execClaimStart (s : State) : Step := s.takes State.claimStart

/-- The unit stops driving and is WAITING; the receiver frames the winner (R139, R158). -/
def State.claimLost (s : State) : State :=
  match s.link.unit with
  | .claiming _ => s.stopDriving
  | _ => s

def execClaimLost (s : State) : Step := s.takes State.claimLost

/-- Sets or clears the sending mark of a producer's frame (R40, R81, R82, R106). -/
def State.setSending (s : State) (f : FrameRef) (mark : Bool) : State :=
  match f with
  | .response =>
    { s with inbound := { s.inbound with
        responses := match s.inbound.responses with
          | r :: rest => { r with sending := mark } :: rest
          | [] => [] } }
  | .dataSlot =>
    { s with inbound := { s.inbound with dataSlot := s.inbound.dataSlot.map fun d => { d with sending := mark } } }
  | .control =>
    s.setControl (match s.member.control with
      | c :: rest => { c with sending := mark } :: rest
      | [] => [])
  | .entry t =>
    if (s.entry t).state = .queued then s.setEntry t { s.entry t with sendingMark := mark } else s

/-- The claim is won: SENDING, with the frame's sending mark and the receiver's own mark set (R141, R158). -/
def State.claimWon (s : State) : State :=
  match s.link.unit with
  | .claiming f =>
    let claim := s.claimOf f
    let s := s.setSending f true
    { s with
      link := { s.link with unit := .sending f, idle := 0 }
      rx := { s.rx with ownMark := true, inProgress := s.rx.inProgress.map fun p => { p with claim := claim } } }
  | _ => s

def execClaimWon (s : State) : Step := s.takes State.claimWon

/-! ## Ends of a send (R41, R107, R142 to R145) -/

/-- A tracker entry whose transmission has ended: LIVE with its deadline, out of the QUEUED order (R41). -/
def State.entrySent (s : State) (t : Tag) : State :=
  let e := s.entry t
  if e.state = .queued then
    let s := match e.kind, e.owner with
      | .write, .channel c => s.modifyChannel c fun ch => { ch with payload := none }
      | _, _ => s
    (s.setEntry t { e with state := .live, sendingMark := false, deadline := some s.responseTime }).dequeueTag t
  else s

/-- The control list's head has been sent; the Membership Unit takes the event of its kind (R106, R110, R114). -/
def State.controlSent (s : State) : State :=
  match s.member.control with
  | c :: rest =>
    let s := s.setControl rest
    match c.kind with
    | .announce => s.enterOnline
    | .leave => s.enterOffline
    | .hello .. => s
  | [] => s

/-- The producer's step at a clean end (R144). -/
def State.producerSent (s : State) (f : FrameRef) : State :=
  match f with
  | .entry t => s.entrySent t
  | .response => { s with inbound := { s.inbound with responses := s.inbound.responses.tail } }
  | .dataSlot => s.dataSent
  | .control => s.controlSent

/-- The end of every clean send restarts the heartbeat timer (R107). -/
def Heartbeat.restart : Heartbeat → Heartbeat
  | .stopped => .stopped
  | _ => .running 0

/-- SEND_CLEAN_END (R144). -/
def State.sendCleanEnd (s : State) : State :=
  match s.link.unit with
  | .sending f =>
    let s := ((s.afterSend f).stopDriving).rxSkip
    let s := { s with
      link := { s.link with garble := 0 }
      member := { s.member with heartbeat := s.member.heartbeat.restart } }
    ((s.withdrawControl ControlKind.byTimer).producerSent f).settle
  | _ => s

def execSendCleanEnd (s : State) : Step := s.takes State.sendCleanEnd

/-- The producer's step at a garbled end: the frame stays with its sending mark clear, but for a HELLO carrying ONLINE after
the entry to LEAVING (R107, R145). -/
def State.producerGarbled (s : State) (f : FrameRef) : State :=
  let s := s.setSending f false
  match f with
  | .control =>
    if s.member.state = .leaving then
      match s.member.control with
      | c :: rest => if c.kind.helloOnline then s.setControl rest else s
      | [] => s
    else s
  | _ => s

/-- What a garbled end does once the unit has stopped driving: the count rises, the producer has its report, and at the garble
limit the station enters CONFLICT (R116, R143, R145). -/
def State.garbledEnd (s : State) (f : FrameRef) : State :=
  let s := ({ s with link := { s.link with garble := s.link.garble + 1 } }).producerGarbled f
  if Config.garbleLimit ≤ s.link.garble then s.enterConflict .garbled else s

/-- SEND_GARBLED (R142). The readback covers the start bit and the claim bits too (R152), so a dominant bit of the claim read
back recessive is a garbled end as well. That transmission was not won, so the receiver goes on framing it (R158). That the
round is then spent is the model's reading (log entry 23), and that the receiver skips a send from here on its choice (log entry
25). -/
def State.sendGarbled (s : State) : State :=
  match s.link.unit with
  | .sending f => (((s.afterSend f).stopDriving).rxSkip).garbledEnd f
  | .claiming f => ((s.afterSend f).stopDriving).garbledEnd f
  | .waiting => s

def execSendGarbled (s : State) : Step := s.takes State.sendGarbled

/-! ## Heard frames (R157, R158) -/

/-- FRAME_JUDGED: only a transmission being framed is judged, and never the station's own (R157, R158). -/
def State.frameJudged (claim : BitVec 7) (bytes : List Byte) (s : State) : State :=
  if s.rx.state = .framing && !s.rx.ownMark then s.judge claim bytes else s

def execFrameJudged (claim : BitVec 7) (bytes : List Byte) (s : State) : Step := s.takes (State.frameJudged claim bytes)

end Sys2Proof.Machine
end

