-- ==== Sys2Proof/Machine/Pins.lean ====
section
/-!
DEFINITION. The meanings of RESET_N and of the trigger lines (R4, R195 to R197).
-/

namespace Sys2Proof.Machine

open Sys2Proof

/-- Every block in its hardware reset state, RESET_N low (R195). Local RAM is no state of the station (R198), so what was
written stays written; the word in transfer is completed on the bus (R182). -/
def State.hardwareReset (s : State) : State :=
  { State.reset with port := s.port.reset, ramWrites := s.ramWrites, pending := s.pending }

/-- RESET_N going low is taken in every state (R195). -/
def execHardwareReset (s : State) : Step := .next s.hardwareReset

/-- RESET_N going high: OFFLINE with the straps' number and the default timing (R197). -/
def State.release (straps : BitVec 5) (s : State) : State :=
  { s with
    host := { s.host with resetLow := false }
    member := { s.member with number := straps, tResp := Config.defaultResp, tHb := Config.defaultHb } }

/-- RESET_N that is already high does not go high. -/
def execResetRelease (straps : BitVec 5) (s : State) : Step := .next (if s.host.resetLow then s.release straps else s)

/-- The trigger source a line is (R4). -/
def lineSource (line : Fin 2) : TriggerSource := if line = 0 then .line0 else .line1

/-- The edge acts on each channel whose trigger source is the line (R4 to R6). -/
def State.edge (line : Fin 2) (s : State) : State :=
  allChannels.foldl (fun s c => if (s.channel c).desc.triggerSource = lineSource line then s.trigger c else s) s

/-- Some channel's start has come due. -/
def State.anyStartDue (s : State) : Bool := allChannels.any s.startDue

/-- TRIGGER_EDGE: channels whose last start condition this was start in the same step (R4, R7). -/
def State.triggerEdge (line : Fin 2) (s : State) : State :=
  let s := s.edge line
  if s.anyStartDue then s.settle else s

def execTriggerEdge (line : Fin 2) (s : State) : Step := s.takes (State.triggerEdge line)

end Sys2Proof.Machine
end

