-- ==== Sys2Proof/Machine/PortEvents.lean ====
section
/-!
DEFINITION. The meanings of the local bus's events: grant, the end of a word, the end of a burst, a bus error (08).
-/

namespace Sys2Proof.Machine

open Sys2Proof

/-- The burst the port chooses at a grant, and the port without its request (R172). -/
def Port.choose (p : Port) : Option (Burst × Port) :=
  match p.landing, p.service, p.fetches with
  | some r, _, _ => some ({ requester := .landing, req := r }, { p with landing := none })
  | none, some r, _ => some ({ requester := .service, req := r }, { p with service := none })
  | none, none, (c, r) :: rest => some ({ requester := .fetch c, req := r }, { p with fetches := rest })
  | none, none, [] => none

/-- BUS_GRANT: a burst begins, or the bus is released without a word (R171, R172). The bus is not granted while a word from
before a reset is still in transfer. -/
def State.busGrant (s : State) : State :=
  if s.port.state = .requesting && s.port.tail.isNone then
    match s.port.choose with
    | some (b, p) => { s with port := { p with state := .burst b } }
    | none => { s with port := { s.port with state := .free } }
  else s

def execBusGrant (s : State) : Step := s.takes State.busGrant

/-- A word transfer completes: a write is in local RAM, a read takes the word from the bus (R174). -/
def Burst.step (b : Burst) (w : Word) : Burst :=
  { b with
    done := b.done + 1
    got := match b.req.dir with
      | .read => b.got ++ [w]
      | .write => b.got }

/-- The word a reset let finish is completed (R182). -/
def State.tailDone (s : State) : State :=
  match s.port.tail with
  | some w => ({ s with port := { s.port with tail := none } }).wordWritten w
  | none => s

/-- The word a reset let finish ends with LM_ERR_N, which is ignored (R182). -/
def State.tailError (s : State) : State := { s with port := { s.port with tail := none } }

/-- WORD_TRANSFER_END: the next word transfer of the burst begins (R174). A word in transfer from before a reset completes in
any state, RESET_N low included (R182, R196). -/
def execWordTransferEnd (w : Word) (s : State) : Step :=
  match s.port.state with
  | .burst b =>
    .next (if b.done + 1 < b.req.count then
      let s := s.wordWritten b.current
      { s with port := { s.port with state := .burst (b.step w) } }
    else s)
  | _ => .next s.tailDone

/-! ## Ends of a burst (R16, R56, R57, R77 to R79, R177, R179) -/

/-- A landing has ended cleanly: bytes received grows, the frame leaves the buffer, the last frame completes the request
(R56). -/
def State.landed (s : State) : State :=
  match s.landingTag, s.rx.buffer with
  | some t, f :: _ =>
    match f.body with
    | .readData _ last _ p =>
      let e := s.entry t
      let s := (s.setEntry t { e with landingMark := false, received := e.received + p.length }).popBuffer
      if last then s.finalAnswer t .completed else s
    | _ => s
  | _, _ => s

/-- A bus error on a landing: the entry goes to ABANDONED and its owner has LOCAL_FAULT (R57). -/
def State.landingError (s : State) : State :=
  match s.landingTag with
  | some t =>
    let e := s.entry t
    let s := (s.setEntry t e.abandon).popBuffer
    s.report e.owner t .localFault
  | none => s

/-- The engine's burst has ended cleanly: an ACK for a write, a READ_DATA frame for a chunk (R77, R78). -/
def State.serviceDone (s : State) (words : List Word) : State :=
  match s.inbound.engine, s.inbound.queue with
  | .writing, r :: _ => s.engineAnswer { dest := r.src, tag := r.tag, answer := .ack }
  | .reading offset, r :: _ => s.chunkRead r offset words
  | _, _ => s

/-- A bus error on the engine's burst: REFUSE LOCAL_ERROR is the final answer (R77, R79). -/
def State.serviceError (s : State) : State :=
  match s.inbound.queue with
  | r :: _ =>
    match s.inbound.engine with
    | .writing | .reading _ => s.engineAnswer { dest := r.src, tag := r.tag, answer := .refuse .localError }
    | .idle | .answering _ => s
  | [] => s

/-- A fetch has ended cleanly: the WRITE_REQ has its payload and is ready (R16). -/
def State.fetchDone (s : State) (c : ChannelNo) (words : List Word) : State :=
  s.modifyChannel c fun ch => { ch with payload := some (bytesOfWords words) }

/-- The clean end is reported to the burst's requester; a cancelled burst reports nothing (R177, R178). -/
def State.reportEnd (s : State) (b : Burst) : State :=
  if b.cancelled then s
  else
    match b.requester with
    | .landing => s.landed
    | .service => s.serviceDone b.got
    | .fetch c => s.fetchDone c b.got

/-- A bus error is reported to the burst's requester; a cancelled burst reports nothing (R178, R179). -/
def State.reportError (s : State) (b : Burst) : State :=
  if b.cancelled then s
  else
    match b.requester with
    | .landing => s.landingError
    | .service => s.serviceError
    | .fetch c => s.endChannel c .localFault none

/-- The port releases the bus (R171). -/
def State.releaseBus (s : State) : State := { s with port := s.port.released }

/-- BURST_END: the last word completes and the clean end is reported in the same step (R177). Whether a request waits is tested
before the other work of the step, so a dispatch in it that withdraws the last one leaves the port REQUESTING (DESIGN CHOICE,
log entry 24). -/
def State.burstEnd (w : Word) (b : Burst) (s : State) : State :=
  (((s.wordWritten b.current).releaseBus).reportEnd (b.step w)).settle

/-- Acts when the word in transfer is the burst's last; a word left by a reset completes as in WORD_TRANSFER_END (R182). -/
def execBurstEnd (w : Word) (s : State) : Step :=
  match s.port.state with
  | .burst b => .next (if b.done + 1 = b.req.count then s.burstEnd w b else s)
  | _ => .next s.tailDone

/-- BUS_ERROR: the burst ends at this word, which counts as not written (R179). The bus is released before the other work of the
step, as in `burstEnd` (DESIGN CHOICE, log entry 24). -/
def State.busError (b : Burst) (s : State) : State := ((s.releaseBus).reportError b).settle

def execBusError (s : State) : Step :=
  match s.port.state with
  | .burst b => .next (s.busError b)
  | _ => .next s.tailError

end Sys2Proof.Machine
end

