-- ==== Sys2Proof/Machine/RegisterWrites.lean ====
section
/-!
DEFINITION. The meanings of the register writes (09, sections 9.1, 9.2 and 9.4).
-/

namespace Sys2Proof.Machine

open Sys2Proof

/-- A locked write is ignored and recorded as WRITE_LOCKED with its byte offset (R186, R189). -/
def State.lockedWrite (s : State) (offset : BitVec 10) : State :=
  s.recordRefusal { kind := .registerWrite, offset := offset, reason := .writeLocked }

/-- A new station number makes the roster entry of that number ABSENT: its leaving flag clears and, if it was PRESENT, its
change flag is set and the reports are made (R120). -/
def State.setNumber (s : State) (n : StationNo) : State :=
  ({ s with member := { s.member with number := n } }).becomeAbsent n

/-- STN_NUMBER_WRITE (R105, R120, R187). -/
def State.writeNumber (v : Word) (s : State) : State :=
  if s.member.state = .offline then s.setNumber (v.extractLsb' 0 5) else s.lockedWrite offsetStnNumber

def execStnNumberWrite (v : Word) (s : State) : Step := s.takes (State.writeNumber v)

/-- TIMING_WRITE: the thresholds of running silence timers are those of the new T_hb from this step (R105, R187). -/
def State.writeTiming (v : Word) (s : State) : State :=
  if s.member.state = .offline then
    { s with member := { s.member with tResp := v.extractLsb' 0 12, tHb := v.extractLsb' 16 8 } }
  else s.lockedWrite offsetTiming

def execTimingWrite (v : Word) (s : State) : Step := s.takes (State.writeTiming v)

/-- WINDOW_TABLE_WRITE (R65). -/
def State.writeWindow (n : Fin 8) (w : Fin 4) (v : Word) (s : State) : State :=
  if s.member.state = .offline then
    { s with inbound := { s.inbound with
        windows := s.inbound.windows.set n.val ((s.inbound.windows.get n).writeWord w v) n.isLt } }
  else s.lockedWrite (offsetWindow n w)

def execWindowTableWrite (n : Fin 8) (w : Fin 4) (v : Word) (s : State) : Step := s.takes (State.writeWindow n w v)

/-- DESCRIPTOR_WRITE (R1). -/
def State.writeDescriptor (c : ChannelNo) (w : Fin 8) (v : Word) (s : State) : State :=
  if (s.channel c).state = .off then s.modifyChannel c fun ch => { ch with desc := ch.desc.writeWord w v }
  else s.lockedWrite (offsetDescriptor c w)

def execDescriptorWrite (c : ChannelNo) (w : Fin 8) (v : Word) (s : State) : Step := s.takes (State.writeDescriptor c w v)

/-- HN_SEND_WRITE (R97). -/
def State.writeHnSend (v : Word) (s : State) : State :=
  if s.notices.slot.state.isSending then s.lockedWrite offsetHnSend
  else s.setSlot { s.notices.slot with peer := v.extractLsb' 0 5, code := v.extractLsb' 16 16 }

def execHnSendWrite (v : Word) (s : State) : Step := s.takes (State.writeHnSend v)

/-- EVT_FLAGS_WRITE: ones clear latched flags; level flags follow their conditions (R190). -/
def State.clearFlags (v : Word) (s : State) : State := { s with host := { s.host with latched := s.host.latched &&& ~~~v } }

def execEvtFlagsWrite (v : Word) (s : State) : Step := s.takes (State.clearFlags v)

/-- EVT_ENABLE_WRITE: the enables at the flags' bits; IRQ_N, a view, follows in the step (R185, R191). -/
def State.writeEnables (v : Word) (s : State) : State := { s with host := { s.host with enables := v &&& flagBits } }

def execEvtEnableWrite (v : Word) (s : State) : Step := s.takes (State.writeEnables v)

/-- Clears the change flags whose bit is one, from station `n` on (R127). -/
def clearChanges (v : Word) : Nat → List RosterEntry → List RosterEntry
  | _, [] => []
  | n, e :: es => { e with changed := e.changed && !v.getLsbD n } :: clearChanges v (n + 1) es

theorem clearChanges_length (v : Word) (n : Nat) (es : List RosterEntry) : (clearChanges v n es).length = es.length := by
  induction es generalizing n with
  | nil => rfl
  | cons e es ih => simp [clearChanges, ih]

/-- ROSTER_CHANGE_WRITE: ones clear the change flags named; bit 31 has none (R127, R187). -/
def State.clearChangeFlags (v : Word) (s : State) : State :=
  { s with member := { s.member with
      roster := ⟨(clearChanges v 0 s.member.roster.toList).toArray, by simp [clearChanges_length]⟩ } }

def execRosterChangeWrite (v : Word) (s : State) : Step := s.takes (State.clearChangeFlags v)

/-- OTHER_REGISTER_WRITE: ignored without a refusal (R185), as is any write while RESET_N is low (R196). A writable register
while RESET_N is high is another row's write. -/
def execOtherRegisterWrite (a : BitVec 8) (_v : Word) (s : State) : Step :=
  if writableRegister a && !s.host.resetLow then .refused (.notThisRow "OTHER_REGISTER_WRITE") else .next s

end Sys2Proof.Machine
end

