-- ==== Sys2Proof/Machine/TimerEvents.lean ====
section
/-!
DEFINITION. The meanings of the timers' expiries (R19, R25, R44, R46, R99, R107, R109, R113, R125). An expiry acts only when its
timer has run out, and finds no timer running otherwise (R45).
-/

namespace Sys2Proof.Machine

open Sys2Proof

/-- A deadline expires (R44): LIVE is quarantined with TIMEOUT to its owner, ABANDONED is quarantined in silence. -/
def State.deadlineExpiry (t : Tag) (s : State) : State :=
  let e := s.entry t
  if e.deadline = some 0 then
    match e.state with
    | .live => ((s.quarantineEntry t).report e.owner t .timeout).settle
    | .abandoned => (s.quarantineEntry t).settle
    | .free | .queued | .quarantined => s
  else s

def execDeadlineExpiry (t : Tag) (s : State) : Step := s.takes (State.deadlineExpiry t)

/-- A quarantine expires: the entry is FREE and its tag goes to a waiting owner (R46, R38). -/
def State.quarantineExpiry (t : Tag) (s : State) : State :=
  if (s.entry t).state = .quarantined && (s.entry t).quarantine = some 0 then (s.freeEntry t).settle else s

def execQuarantineExpiry (t : Tag) (s : State) : Step := s.takes (State.quarantineExpiry t)

/-- The record at place `r` becomes PENDING (R19). -/
def Channel.recordPending (ch : Channel) (r : Nat) : Channel :=
  { ch with records := ch.records.modify r fun x => { x with state := .pending } }

/-- A segment's backoff expires; the record is issued when its channel may issue (R13, R19). -/
def State.segmentBackoffExpiry (n : ChannelNo) (r : Fin 4) (s : State) : State :=
  match (s.channel n).records[r.val]? with
  | some x => if x.state = .backoff 0 then (s.modifyChannel n fun ch => ch.recordPending r.val).settle else s
  | none => s

def execSegmentBackoffExpiry (n : ChannelNo) (r : Fin 4) (s : State) : Step := s.takes (State.segmentBackoffExpiry n r)

/-- An end notice's backoff expires; it waits to be given a tag again (R25, R103). -/
def State.endNoticeBackoffExpiry (n : ChannelNo) (s : State) : State :=
  match (s.channel n).notice with
  | some x => if x.phase = .backoff 0 then (s.setNotice n { x with phase := .waiting }).settle else s
  | none => s

def execEndNoticeBackoffExpiry (n : ChannelNo) (s : State) : Step := s.takes (State.endNoticeBackoffExpiry n)

/-- The host notice's backoff expires; the slot asks for a tag again (R99). -/
def State.hostNoticeBackoffExpiry (s : State) : State :=
  let x := s.notices.slot
  if x.state = .sending (.backoff 0) then (s.setSlot { x with state := .sending .waiting }).settle else s

def execHostNoticeBackoffExpiry (s : State) : Step := s.takes State.hostNoticeBackoffExpiry

/-- The listen period is over: the ANNOUNCE joins the control list (R109). -/
def State.listenTimerExpiry (s : State) : State :=
  if s.member.state = .listening && s.member.listen = some 0 then
    ({ s with member := { s.member with listen := none } }).appendControl .announce
  else s

def execListenTimerExpiry (s : State) : Step := s.takes State.listenTimerExpiry

/-- The control list holds a HELLO or a LEAVE, so the heartbeat timer appends none (R107). -/
def ControlKind.holdsBack : ControlKind → Bool
  | .hello .. | .leave => true
  | .announce => false

/-- The HELLO of a station state; only ONLINE and LEAVING send one (R106). -/
def StationState.hello : StationState → Option HelloState
  | .online => some .online
  | .leaving => some .leaving
  | .offline | .listening | .conflict => none

/-- The heartbeat timer has reached T_hb (R107). -/
def State.heartbeatDue (s : State) : Bool :=
  match s.member.heartbeat with
  | .running n => decide (s.heartbeatTime ≤ n)
  | .stopped | .expired => false

/-- A HELLO carrying the present state is appended, and the timer waits, expired (R107). -/
def State.heartbeatTimerExpiry (s : State) : State :=
  if s.heartbeatDue then
    let s := { s with member := { s.member with heartbeat := .expired } }
    match s.member.state.hello with
    | some st => if s.member.control.any (·.kind.holdsBack) then s else s.appendControl (.hello st true)
    | none => s
  else s

def execHeartbeatTimerExpiry (s : State) : Step := s.takes State.heartbeatTimerExpiry

/-- The drain limit (R113). -/
def State.drainTimerExpiry (s : State) : State :=
  if s.member.state = .leaving && s.member.drain = some 0 then s.forceDrain.settle else s

def execDrainTimerExpiry (s : State) : Step := s.takes State.drainTimerExpiry

/-- The silence of a PRESENT peer has reached 3 × T_hb; while T_hb is 0 no silence timer expires (R105, R125). -/
def State.silenceDue (s : State) (n : StationNo) : Bool :=
  match (s.rosterEntry n).presence with
  | .present us => s.member.tHb ≠ 0 && decide (Config.absenceIntervals * s.heartbeatTime ≤ us)
  | .absent => false

def stationOf (n : Fin 31) : StationNo := BitVec.ofNat 5 n.val

/-- The entry becomes ABSENT with its peer-lost reports (R125, R126). -/
def State.silenceTimerExpiry (n : Fin 31) (s : State) : State :=
  if s.silenceDue (stationOf n) then (s.becomeAbsent (stationOf n)).settle else s

def execSilenceTimerExpiry (n : Fin 31) (s : State) : Step := s.takes (State.silenceTimerExpiry n)

end Sys2Proof.Machine
end

