-- ==== Sys2Proof/Machine/Dispatch.lean ====
section
/-! DEFINITION. One arm per row of the opcode table, each a direct call of the row's meaning. -/

namespace Sys2Proof.Machine

open Sys2Proof

def exec (i : Instr) (s : State) : Host.Outcome State Fault Refusal :=
  match i with
  | .join op => Sys2Proof.Machine.execJoin op s
  | .leave op => Sys2Proof.Machine.execLeave op s
  | .stationReset op => Sys2Proof.Machine.execStationReset op s
  | .holdUp op => Sys2Proof.Machine.execHoldUp op s
  | .holdDown op => Sys2Proof.Machine.execHoldDown op s
  | .sendNotice op => Sys2Proof.Machine.execSendNotice op s
  | .popNotice op => Sys2Proof.Machine.execPopNotice op s
  | .clearCounters op => Sys2Proof.Machine.execClearCounters op s
  | .chEnable op => Sys2Proof.Machine.execChEnable op s
  | .chStart op => Sys2Proof.Machine.execChStart op s
  | .chPause op => Sys2Proof.Machine.execChPause op s
  | .chResume op => Sys2Proof.Machine.execChResume op s
  | .chAbort op => Sys2Proof.Machine.execChAbort op s
  | .chDisable op => Sys2Proof.Machine.execChDisable op s
  | .unknownCommandCode code op => Sys2Proof.Machine.execUnknownCommandCode code op s
  | .stnNumberWrite v => Sys2Proof.Machine.execStnNumberWrite v s
  | .timingWrite v => Sys2Proof.Machine.execTimingWrite v s
  | .windowTableWrite n word v => Sys2Proof.Machine.execWindowTableWrite n word v s
  | .descriptorWrite n word v => Sys2Proof.Machine.execDescriptorWrite n word v s
  | .hnSendWrite v => Sys2Proof.Machine.execHnSendWrite v s
  | .evtFlagsWrite v => Sys2Proof.Machine.execEvtFlagsWrite v s
  | .evtEnableWrite v => Sys2Proof.Machine.execEvtEnableWrite v s
  | .rosterChangeWrite v => Sys2Proof.Machine.execRosterChangeWrite v s
  | .otherRegisterWrite a v => Sys2Proof.Machine.execOtherRegisterWrite a v s
  | .hardwareReset => Sys2Proof.Machine.execHardwareReset s
  | .resetRelease straps => Sys2Proof.Machine.execResetRelease straps s
  | .triggerEdge line => Sys2Proof.Machine.execTriggerEdge line s
  | .channelStart n => Sys2Proof.Machine.execChannelStart n s
  | .segmentIssue n => Sys2Proof.Machine.execSegmentIssue n s
  | .tagAllocation => Sys2Proof.Machine.execTagAllocation s
  | .frameGap => Sys2Proof.Machine.execFrameGap s
  | .roundGap => Sys2Proof.Machine.execRoundGap s
  | .claimStart => Sys2Proof.Machine.execClaimStart s
  | .claimLost => Sys2Proof.Machine.execClaimLost s
  | .claimWon => Sys2Proof.Machine.execClaimWon s
  | .sendCleanEnd => Sys2Proof.Machine.execSendCleanEnd s
  | .sendGarbled => Sys2Proof.Machine.execSendGarbled s
  | .frameJudged claim bytes => Sys2Proof.Machine.execFrameJudged claim bytes s
  | .frameDispatch => Sys2Proof.Machine.execFrameDispatch s
  | .deadlineExpiry t => Sys2Proof.Machine.execDeadlineExpiry t s
  | .quarantineExpiry t => Sys2Proof.Machine.execQuarantineExpiry t s
  | .segmentBackoffExpiry n r => Sys2Proof.Machine.execSegmentBackoffExpiry n r s
  | .endNoticeBackoffExpiry n => Sys2Proof.Machine.execEndNoticeBackoffExpiry n s
  | .hostNoticeBackoffExpiry => Sys2Proof.Machine.execHostNoticeBackoffExpiry s
  | .listenTimerExpiry => Sys2Proof.Machine.execListenTimerExpiry s
  | .heartbeatTimerExpiry => Sys2Proof.Machine.execHeartbeatTimerExpiry s
  | .drainTimerExpiry => Sys2Proof.Machine.execDrainTimerExpiry s
  | .drainEnd => Sys2Proof.Machine.execDrainEnd s
  | .silenceTimerExpiry n => Sys2Proof.Machine.execSilenceTimerExpiry n s
  | .busGrant => Sys2Proof.Machine.execBusGrant s
  | .burstEnd w => Sys2Proof.Machine.execBurstEnd w s
  | .busError => Sys2Proof.Machine.execBusError s
  | .engineAnswerPlaced => Sys2Proof.Machine.execEngineAnswerPlaced s
  | .startBit => Sys2Proof.Machine.execStartBit s
  | .wordTransferEnd w => Sys2Proof.Machine.execWordTransferEnd w s

end Sys2Proof.Machine
end

