-- ==== Sys2Proof/Machine/Time.lean ====
section
/-!
DEFINITION. One microsecond passes (00, Time; log entry 8): every running timer and the idle measure advance. A timer that
has run out waits for its expiry command.
-/

namespace Sys2Proof.Machine

open Sys2Proof

/-- A timer that counts down stays at 0. -/
def tickDown (t : Option Micros) : Option Micros := t.map (· - 1)

def NoticePhase.tick : NoticePhase → NoticePhase
  | .backoff n => .backoff (n - 1)
  | p => p

def SegRecord.tick (r : SegRecord) : SegRecord :=
  match r.state with
  | .backoff n => { r with state := .backoff (n - 1) }
  | _ => r

/-- BACKOFF timers run in every state of the channel (R10, R19, R103). -/
def Channel.tick (ch : Channel) : Channel :=
  { ch with
    records := ch.records.map SegRecord.tick
    notice := ch.notice.map fun n => { n with phase := n.phase.tick } }

def Entry.tick (e : Entry) : Entry := { e with deadline := tickDown e.deadline, quarantine := tickDown e.quarantine }

def Slot.tick (x : Slot) : Slot :=
  match x.state with
  | .sending p => { x with state := .sending p.tick }
  | _ => x

def Presence.tick : Presence → Presence
  | .absent => .absent
  | .present n => .present (n + 1)

def RosterEntry.tick (e : RosterEntry) : RosterEntry := { e with presence := e.presence.tick }

def Heartbeat.tick : Heartbeat → Heartbeat
  | .running n => .running (n + 1)
  | h => h

def Membership.tick (m : Membership) : Membership :=
  { m with
    listen := tickDown m.listen, drain := tickDown m.drain, heartbeat := m.heartbeat.tick
    roster := mapTable RosterEntry.tick m.roster }

/-- The medium is idle for the station: it drives nothing and no transmission is being framed (R129, R152). -/
def State.mediumIdle (s : State) : Bool := s.link.unit = .waiting && s.rx.state ≠ .framing

/-- The idle measure runs only on an idle medium (R129). -/
def State.tickIdle (s : State) : LinkUnit := if s.mediumIdle then { s.link with idle := s.link.idle + 1 } else s.link

/-- One µs passes; with RESET_N low no timer runs (R196). -/
def State.tick (s : State) : State :=
  if s.host.resetLow then s
  else
    { s with
      channels := mapTable Channel.tick s.channels
      tracker := { s.tracker with entries := mapTable Entry.tick s.tracker.entries }
      notices := { s.notices with slot := s.notices.slot.tick }
      member := s.member.tick
      link := s.tickIdle }

end Sys2Proof.Machine
end

