-- ==== Sys2Proof/Machine/Registers.lean ====
section
/-!
DEFINITION. The register window as it reads (09, section 9.1; R33, R64, R118, R128, R168, R184, R185). A read has no effect
and has no row in the opcode table, so it is a view.
-/

namespace Sys2Proof.Machine

open Sys2Proof

/-! ## Coded fields (09) -/

def StationState.code : StationState → Nat
  | .offline => 0 | .listening => 1 | .online => 2 | .leaving => 3 | .conflict => 4

def ConflictCause.code : ConflictCause → Nat
  | .none => 0 | .duplicate => 1 | .garbled => 2

def ChannelState.code : ChannelState → Nat
  | .off => 0 | .armed => 1 | .running => 2 | .paused => 3 | .notifying => 4

def TermCode.code : TermCode → Nat
  | .none => 0 | .normal => 1 | .aborted => 2 | .timeout => 3 | .dataError => 4 | .refused => 5 | .peerAbsent => 6
  | .peerLost => 7 | .localFault => 8 | .noticeFailed => 9 | .badDescriptor => 10 | .left => 11 | .conflict => 12

def reasonField (r : Option RefuseReason) : Nat := (r.map fun r => r.code.toNat).getD 0

def EntryState.code : EntryState → Nat
  | .free => 0 | .queued => 1 | .live => 2 | .abandoned => 3 | .quarantined => 4

def EntryKind.code : EntryKind → Nat
  | .read => 0 | .write => 1 | .notice => 2

def Owner.code : Owner → Nat
  | .channel c => c.val
  | .host => 6

def SlotState.code : SlotState → Nat
  | .idle => 0 | .sending _ => 1 | .done => 2

def SlotResult.code : SlotResult → Nat
  | .none => 0 | .acked => 1 | .refused => 2 | .timeout => 3 | .peerLost => 4

def RefusalReason.code : RefusalReason → Nat
  | .none => 0 | .wrongState => 1 | .badOperand => 2 | .holdLimit => 3 | .configInvalid => 4 | .descriptorInvalid => 5
  | .queueEmpty => 6 | .writeLocked => 7

def RefusalKind.code : RefusalKind → Nat
  | .command => 0 | .registerWrite => 1

def Direction.bit : Direction → Nat
  | .pull => 0 | .push => 1

def AddrMode.bit : AddrMode → Nat
  | .increment => 0 | .fixed => 1

def Priority.bit : Priority → Nat
  | .low => 0 | .high => 1

def TriggerSource.code : TriggerSource → Nat
  | .host => 0 | .line0 => 1 | .line1 => 2 | .notice => 3

/-- A word whose fields are given by their low bit and value; the fields do not overlap. -/
def packWord (fields : List (Nat × Nat)) : Word := fields.foldl (fun w f => w ||| (BitVec.ofNat 32 f.2 <<< f.1)) 0

/-! ## The words -/

def Descriptor.readWord (d : Descriptor) (w : Nat) : Word :=
  if w = 0 then
    packWord [(0, d.direction.bit), (1, d.remoteMode.bit), (2, d.localMode.bit), (3, d.priority.bit), (4, d.reload.toNat),
      (5, d.endNotice.toNat), (6, d.endIrq.toNat), (7, d.errIrq.toNat), (8, d.triggerSource.code),
      (12, d.depthCode.toNat), (16, d.retryLimit.toNat)]
  else if w = 1 then d.peer.setWidth 32
  else if w = 2 then d.remote.setWidth 32
  else if w = 3 then d.localAddr
  else if w = 4 then d.length.setWidth 32
  else if w = 5 then d.segSize.setWidth 32
  else if w = 6 then packWord [(0, d.triggerCode.toNat), (16, d.triggerStation.toNat)]
  else d.endNoticeCode.setWidth 32

def Window.readWord (x : Window) (w : Nat) : Word :=
  if w = 0 then packWord [(0, x.base.toNat), (28, x.access.toNat), (31, x.enable.toNat)]
  else if w = 1 then x.size.setWidth 32
  else if w = 2 then x.localBase
  else x.sources.setWidth 32

/-- The status words of a channel (R33). -/
def Channel.statusWord (ch : Channel) (w : Nat) : Word :=
  if w = 0 then
    packWord [(0, ch.state.code), (8, ch.code.code), (12, reasonField ch.reason), (16, ch.latch.toNat), (17, ch.pause.toNat),
      (18, ch.overrun.toNat), (19, ch.waiting.toNat)]
  else if w = 1 then BitVec.ofNat 32 ch.front
  else if w = 2 then BitVec.ofNat 32 ch.remaining
  else if w = 3 then ch.curRemote.setWidth 32
  else if w = 4 then ch.curLocal
  else 0

/-- One word of the tracker view (R64). -/
def Entry.viewWord (e : Entry) : Word :=
  packWord [(0, e.state.code), (4, e.kind.code), (8, e.owner.code), (16, e.peer.toNat)]

def RefusalRecord.word (r : RefusalRecord) : Word :=
  packWord [(0, r.code.toNat), (8, r.operand.toNat), (12, r.reason.code), (16, r.offset.toNat), (31, r.kind.code)]

/-- The head of the Notice Queue; all zero when it is empty (R96). -/
def State.noticeHeadWord (s : State) : Word :=
  match s.notices.queue with
  | n :: _ => packWord [(0, n.src.toNat), (8, n.seq.toNat), (16, n.code.toNat)]
  | [] => 0

def Slot.statusWord (x : Slot) : Word :=
  packWord [(0, x.state.code), (4, x.result.code), (8, reasonField x.reason), (16, x.attempts), (24, x.busy)]

/-- Bit n of a roster set (R128). -/
def rosterSet (f : RosterEntry → Bool) (es : List RosterEntry) : Word :=
  es.reverse.foldl (fun w e => (w <<< 1) ||| (if f e then 1 else 0)) 0

/-- The register at a word address, as it reads while RESET_N is high; an offset the map does not name reads 0 (R185). -/
def State.registerWord (s : State) (a : BitVec 8) : Word :=
  let off := 4 * a.toNat
  let m := s.member
  if off = 0x000 then m.number.setWidth 32
  else if off = 0x004 then packWord [(0, m.state.code), (4, m.cause.code), (8, s.holdDepth)]
  else if off = 0x008 then packWord [(0, m.tResp.toNat), (16, m.tHb.toNat)]
  else if off = 0x010 then s.host.refusal.word
  else if off = 0x014 then s.eventFlags
  else if off = 0x018 then s.host.enables
  else if off = 0x020 then s.rx.badFrame.setWidth 32
  else if off = 0x024 then s.rx.stale.setWidth 32
  else if off = 0x028 then s.rx.dropped.setWidth 32
  else if off = 0x030 then s.noticeHeadWord
  else if off = 0x034 then BitVec.ofNat 32 s.notices.queue.length
  else if off = 0x038 then packWord [(0, s.notices.slot.peer.toNat), (16, s.notices.slot.code.toNat)]
  else if off = 0x03C then s.notices.slot.statusWord
  else if off = 0x040 then rosterSet (·.presence.isPresent) m.roster.toList
  else if off = 0x044 then rosterSet (·.leaving) m.roster.toList
  else if off = 0x048 then rosterSet (·.changed) m.roster.toList
  else if 0x080 ≤ off ∧ off < 0x100 then (s.inbound.windows.toList.getD ((off - 0x080) / 0x10) {}).readWord (off % 0x10 / 4)
  else if 0x100 ≤ off ∧ off < 0x1C0 then (s.channels.toList.getD ((off - 0x100) / 0x20) {}).desc.readWord (off % 0x20 / 4)
  else if 0x1C0 ≤ off ∧ off < 0x280 then (s.channels.toList.getD ((off - 0x1C0) / 0x20) {}).statusWord (off % 0x20 / 4)
  else if 0x280 ≤ off ∧ off < 0x300 then (s.tracker.entries.toList.getD ((off - 0x280) / 4) {}).viewWord
  else 0

/-- A read of the register window (R184, R196). -/
def State.readRegister (s : State) (a : BitVec 8) : Word := if s.host.resetLow then 0 else s.registerWord a

end Sys2Proof.Machine
end

