-- ==== Sys2Proof/Safety.lean ====
section
/-!
DEFINITION. What counts as a safe state, in the terms the claims use: the invariants the spec's rules state of the whole
station, each as a predicate on any state.
-/

namespace Sys2Proof.Safety

open Sys2Proof Sys2Proof.Machine

/-- Marks and timers of an entry exist in the states that R34 gives them, and only there. -/
def EntryTimers (e : Entry) : Prop :=
  (e.sendingMark = true → e.state = .queued) ∧
  (e.landingMark = true → e.state = .live) ∧
  (e.deadline.isSome = true ↔ e.state = .live ∨ e.state = .abandoned) ∧
  (e.quarantine.isSome = true ↔ e.state = .quarantined)

/-- R34 for every tag. -/
def TrackerTimers (s : State) : Prop := ∀ t : Tag, EntryTimers (s.entry t)

/-- A request that may still draw an answer (R34). -/
def InFlight (e : Entry) : Prop := e.state = .queued ∨ e.state = .live ∨ e.state = .abandoned

/-- No entry in QUEUED, LIVE or ABANDONED names an ABSENT peer (R58). -/
def NoAbsentPeer (s : State) : Prop := ∀ t : Tag, InFlight (s.entry t) → s.isPresent (s.entry t).peer = true

/-- Each channel owns at most one QUEUED entry (R14). -/
def OneQueued (s : State) : Prop :=
  ∀ (c : ChannelNo) (t u : Tag),
    (s.entry t).owner = .channel c → (s.entry t).state = .queued →
    (s.entry u).owner = .channel c → (s.entry u).state = .queued → t = u

/-- The OUTSTANDING records of a channel are at most its depth, and a channel that is OFF or ARMED has none in use
(R7, R14, R23). -/
def WithinDepth (s : State) : Prop :=
  ∀ c : ChannelNo,
    (s.channel c).outstandingCount ≤ (s.channel c).desc.depth ∧ (s.channel c).records.length ≤ Config.segmentRecords ∧
    ((s.channel c).state = .off ∨ (s.channel c).state = .armed → (s.channel c).records = [])

/-- Segment records tile the bytes from `a` to `b`, none of them empty (R11). -/
def Tiles (a b : Nat) : List SegRecord → Prop
  | [] => a = b
  | r :: rs => r.offset = a ∧ 0 < r.length ∧ Tiles (a + r.length) b rs

/-- The tags of the OUTSTANDING records. -/
def outstandingTags (l : List SegRecord) : List Tag :=
  l.filterMap fun r => match r.state with
    | .outstanding t => some t
    | _ => none

/-- What a channel holds in each of its states: its records tile the bytes from the front to the cut offset while it runs or
is paused, a notice record while it is NOTIFYING, neither otherwise; while it is not OFF its segment size is not 0, since
CH_ENABLE asks that and the descriptor is locked (R1 to R3, R11, R17, R23 to R26). -/
def ChannelShape (ch : Channel) : Prop :=
  match ch.state with
  | .off => ch.records = [] ∧ ch.notice = none
  | .armed => ch.records = [] ∧ ch.notice = none ∧ ch.front = 0 ∧ 0 < ch.desc.segSize.toNat
  | .running | .paused =>
    ch.notice = none ∧ 0 < ch.desc.segSize.toNat ∧ ch.cutOffset ≤ ch.desc.length.toNat ∧
      Tiles ch.front ch.cutOffset ch.records
  | .notifying => ch.records = [] ∧ ch.notice ≠ none ∧ 0 < ch.desc.segSize.toNat

/-- A channel's OUTSTANDING records are, tag by tag, the READ and WRITE entries it owns in QUEUED or LIVE (R14). -/
def RecordsMatch (s : State) : Prop :=
  ∀ c : ChannelNo, ChannelShape (s.channel c) ∧ (outstandingTags (s.channel c).records).Nodup ∧
    ∀ t : Tag, t ∈ outstandingTags (s.channel c).records ↔
      (s.entry t).owner = .channel c ∧ (s.entry t).kind ≠ .notice ∧
        ((s.entry t).state = .queued ∨ (s.entry t).state = .live)

/-- The queues hold no more than their capacity, and the hold depth is at most 15 (R10, R75, R81, R94, R161). -/
def WithinCapacity (s : State) : Prop :=
  s.holdDepth ≤ Config.holdLimit ∧
  s.inbound.queue.length ≤ Config.inboundQueueSize ∧
  s.inbound.responses.length ≤ Config.responseQueueSize ∧
  s.notices.queue.length ≤ Config.noticeQueueSize ∧
  s.rx.buffer.length ≤ Config.receiveBufferSize

/-- The roster entry of the station's own number is ABSENT (R120); in reset every entry is (R128). -/
def OwnAbsent (s : State) : Prop :=
  s.isPresent s.member.number = false ∧ (s.host.resetLow = true → ∀ n : StationNo, s.isPresent n = false)

/-- The window fields hold multiples of 4 (R65). -/
def WindowAligned (w : Window) : Prop := w.base.toNat % 4 = 0 ∧ w.size.toNat % 4 = 0 ∧ w.localBase.toNat % 4 = 0

def WindowsAligned (s : State) : Prop := ∀ n : Fin 8, WindowAligned (s.inbound.windows.get n)

/-- Only bits the map names are held in the flags and the enables (R185). -/
def FlagBits (s : State) : Prop := s.host.latched &&& ~~~latchedBits = 0 ∧ s.host.enables &&& ~~~flagBits = 0

/-- The garble count is at most 4, and at 4 the station is in CONFLICT and drives nothing (R143, R150). -/
def GarbleBound (s : State) : Prop :=
  s.link.garble ≤ Config.garbleLimit ∧
  (s.link.garble = Config.garbleLimit → s.member.state = .conflict ∧ s.link.unit = .waiting)

/-- A frame whose fields are in the ranges of R154 and R157. -/
def Frame.WellFormed (f : Frame) : Prop :=
  f.src.toNat ≤ 30 ∧ destinationFits f.dest f.body = true ∧
  match f.body with
  | .writeReq _ _ _ p => p.length ≤ 64
  | .readData _ _ _ p => 4 ≤ p.length ∧ p.length ≤ 64 ∧ p.length % 4 = 0
  | _ => True

/-! ## States that statements name -/

/-- The state after a refused command: record and CMD_REFUSED, and nothing else (R188, R189). -/
def refusedCommand (s : State) (code : BitVec 8) (op : BitVec 3) (reason : RefusalReason) : State :=
  { s with host := { s.host with
      refusal := { kind := .command, code := code, operand := op, offset := 0, reason := reason }
      latched := s.host.latched ||| 0x00040000#32 } }

/-- The state after a locked write: record and CMD_REFUSED, and nothing else (R186, R189). -/
def lockedWriteTo (s : State) (offset : BitVec 10) : State :=
  { s with host := { s.host with
      refusal := { kind := .registerWrite, code := 0, operand := 0, offset := offset, reason := .writeLocked }
      latched := s.host.latched ||| 0x00040000#32 } }

/-- The station state changes with its cause, and STATION_STATE is set (R118). -/
def stationChanged (s : State) (st : StationState) (cause : ConflictCause) : State :=
  { s with
    member := { s.member with state := st, cause := cause }
    host := { s.host with latched := s.host.latched ||| 0x00010000#32 } }

/-- Window n of the Window Table. -/
def window (s : State) (n : Fin 8) : Window := s.inbound.windows.get n

/-- The word address of word `w` of window `n`, and the bits the map names there (09, register map; R185). -/
def windowAddress (n : Fin 8) (w : Fin 4) : BitVec 8 := BitVec.ofNat 8 (0x20 + 4 * n.val + w.val)

def windowMask (w : Fin 4) : Word :=
  match w with
  | 0 => 0xB0FFFFFC
  | 1 => 0x01FFFFFC
  | 2 => 0xFFFFFFFC
  | 3 => 0x7FFFFFFF

/-- The word address of word `w` of channel `c`'s descriptor, and the bits the map names there (09, register map; R185). -/
def descriptorAddress (c : ChannelNo) (w : Fin 8) : BitVec 8 := BitVec.ofNat 8 (0x40 + 8 * c.val + w.val)

def descriptorMask (w : Fin 8) : Word :=
  match w with
  | 0 => 0x000733FF
  | 1 => 0x0000001F
  | 2 => 0x00FFFFFF
  | 3 => 0xFFFFFFFF
  | 4 => 0x00FFFFFF
  | 5 => 0x000001FF
  | 6 => 0x001FFFFF
  | 7 => 0x0000FFFF

/-- The tests of R66, address by address. -/
def WindowTests (s : State) : Prop :=
  (∀ n : Fin 8, (window s n).enable = true →
    4 ≤ (window s n).size.toNat ∧ (window s n).base.toNat + (window s n).size.toNat ≤ 0x1000000 ∧ (window s n).access ≠ 3) ∧
  (∀ (n m : Fin 8) (x : Nat), (window s n).holds x = true → (window s m).holds x = true → n = m)

/-- The tests of JOIN (R108). -/
def JoinTests (s : State) : Prop :=
  s.member.number ≠ 31 ∧ s.member.tResp ≠ 0 ∧ s.member.tHb ≠ 0 ∧ WindowTests s

/-- The conditions of R2. -/
def DescriptorTests (d : Descriptor) (own : StationNo) : Prop :=
  (d.length ≠ 0 ∧ d.length.toNat % 4 = 0) ∧ (d.remote.toNat % 4 = 0 ∧ d.localAddr.toNat % 4 = 0) ∧
  (d.segSize.toNat % 4 = 0 ∧ 4 ≤ d.segSize.toNat ∧ (d.direction = .pull → d.segSize.toNat ≤ 256) ∧
    (d.direction = .push → d.segSize.toNat ≤ 64)) ∧
  (d.peer ≠ 31 ∧ d.peer ≠ own) ∧
  (d.remoteMode = .increment → d.remote.toNat + d.length.toNat ≤ 0x1000000)

/-- The format a request must have (R70). -/
def FormatGood (write : Bool) (addr : BitVec 24) (len : BitVec 16) (payload : List Byte) : Prop :=
  len ≠ 0 ∧ len.toNat % 4 = 0 ∧ (write = false → len.toNat ≤ 256) ∧ (write = true → len.toNat ≤ 64) ∧
  addr.toNat % 4 = 0 ∧ (write = true → payload.length = len.toNat)

/-- An answer finds an entry that it matches (R49). -/
def Matches (e : Entry) (src : StationNo) (b : FrameBody) : Prop :=
  (e.state = .live ∨ e.state = .abandoned) ∧ e.peer = src ∧
  match b with
  | .readData .. => e.kind = .read
  | .ack _ => e.kind = .write ∨ e.kind = .notice
  | .refuse .. => True
  | _ => False

/-- The checks of R53 that a READ_DATA passes. -/
def ReadDataPasses (e : Entry) (last : Bool) (offset p : Nat) : Prop :=
  offset = e.received ∧ e.received + p ≤ e.length ∧ (last = true → e.length ≤ e.received + p)

/-- Nothing that R7, R13, R38, R76, R112 or R162 would do is due. -/
def NothingDue (s : State) : Prop :=
  (∀ c : ChannelNo, s.startDue c = false ∧ s.wantsTag c = false ∧ (s.channel c).waiting = false) ∧
  s.slotWaits = false ∧ s.dispatchDue = false ∧ s.drainDone = false ∧
  (s.inbound.engine = .idle → s.inbound.queue = [])

/-- What R7, R13, R38, R76, R112 and R162 would do has been done: no ARMED channel meets its start conditions, the channels that
may issue and only those ask for a tag, an owner that still waits finds no FREE tag, an IDLE engine has no head to take, no
frame is to be dispatched, and a drain that has become quiet has ended. -/
def WorkDone (s : State) : Prop :=
  (∀ c : ChannelNo, ¬ ((s.channel c).state = .armed ∧ (s.channel c).latch = true ∧ (s.channel c).pause = false ∧
    s.member.state = .online ∧ s.holdDepth = 0)) ∧
  (∀ c : ChannelNo, (s.channel c).waiting = s.wantsTag c) ∧
  (∀ o : Owner, s.waits o = true → ∀ t : Tag, (s.entry t).state ≠ .free) ∧
  (s.inbound.engine = .idle → s.inbound.queue = []) ∧
  (s.rx.buffer = [] ∨ ∃ t : Tag, (s.entry t).landingMark = true) ∧
  (s.member.state = .leaving → s.member.drain ≠ none → ¬ (s.trackerQuiet = true ∧ s.inboundQuiet = true))

/-- A segment's request under tag `g` (R12, R15, R16, R35, R36): the channel's records and cut offset after it, its entry QUEUED
at the end of the order, and for a PUSH the fetch of its payload. -/
def issuedRequest (s : State) (c : ChannelNo) (g : Tag) (records : List SegRecord) (cut offset len : Nat) : State :=
  let d := (s.channel c).desc
  let remote := if d.remoteMode = .increment then d.remote + BitVec.ofNat 24 offset else d.remote
  let local_ := if d.localMode = .increment then d.localAddr + BitVec.ofNat 32 offset else d.localAddr
  let u : State := s.setChannel c { s.channel c with
    waiting := false, payload := none, cutOffset := cut, records := records }
  let u : State := { u with tracker := { u.tracker with queued := s.tracker.queued ++ [g] } }
  match d.direction with
  | .pull => u.setEntry g {
      state := .queued, kind := .read, owner := .channel c, peer := d.peer, remote := remote, length := len
      localAddr := local_, localMode := d.localMode, received := 0 }
  | .push =>
    let u : State := u.setEntry g {
      state := .queued, kind := .write, owner := .channel c, peer := d.peer, remote := remote, length := len }
    { u with port := { s.port with
        fetches := s.port.fetches ++ [(c, { dir := .read, mode := d.localMode, first := local_, count := len / 4 })]
        state := if s.port.state = .free then .requesting else s.port.state } }

/-- The lost peer's answers can no longer come: every entry to it that was LIVE or ABANDONED is QUARANTINED, and each owner of a
QUEUED or LIVE one has PEER_LOST, which ends a channel, in NOTIFYING with NOTICE_FAILED, and the Host Notice Slot (R58, R59,
R21, R25, R99). -/
def RequestsLost (p : StationNo) (s t : State) : Prop :=
  ∀ g : Tag, (s.entry g).peer = p →
    ((s.entry g).state = .live ∨ (s.entry g).state = .abandoned → t.entry g = { s.entry g with
      state := .quarantined, sendingMark := false, landingMark := false, deadline := none
      quarantine := some (s.member.tResp.toNat * 16) }) ∧
    ((s.entry g).state = .queued ∨ (s.entry g).state = .live →
      (∀ c : ChannelNo, (s.entry g).owner = .channel c → (s.channel c).notice = none →
        (∃ r ∈ (s.channel c).records, r.state = .outstanding g) →
        (t.channel c).state = .off ∧ (t.channel c).code = .peerLost) ∧
      (∀ (c : ChannelNo) (n : NoticeRecord), (s.entry g).owner = .channel c → (s.channel c).notice = some n →
        n.phase = .tagged g → (t.channel c).state = .off ∧ (t.channel c).code = .noticeFailed) ∧
      ((s.entry g).owner = .host → s.notices.slot.state = .sending (.tagged g) →
        t.notices.slot = { s.notices.slot with state := .done, result := .peerLost, reason := none } ∧
        t.flag .hostNoticeDone = true))

/-- The Inbound Service holds nothing of the lost peer, keeps the order of the others, and has taken its next head if it was
serving that peer (R84). -/
def InboundPurged (p : StationNo) (s t : State) : Prop :=
  let left := s.inbound.queue.filter (·.src ≠ p)
  let serving : Prop := s.inbound.engine ≠ .idle ∧ ∃ (r : InRequest) (rest : List InRequest),
    s.inbound.queue = r :: rest ∧ r.src = p
  t.inbound.queue = left ∧
  t.inbound.responses = s.inbound.responses.filter (·.dest ≠ p) ∧
  t.inbound.dataSlot = s.inbound.dataSlot.filter (·.dest ≠ p) ∧
  t.inbound.windows = s.inbound.windows ∧
  (serving ∨ s.inbound.engine = .idle → t.inbound.engine = match left with
    | [] => .idle
    | r :: _ => if r.write then .writing else .reading 0) ∧
  (¬ serving → s.inbound.engine ≠ .idle → t.inbound.engine = s.inbound.engine)

/-- What entry to OFFLINE (`code` LEFT) and entry to CONFLICT (`code` CONFLICT) do to every block, and what they keep
(R31, R62, R86, R101, R114, R117, R150, R166, R181). -/
def Quiesced (code : TermCode) (s t : State) : Prop :=
  (∀ c : ChannelNo, match (s.channel c).state with
    | .off | .armed => t.channel c = { s.channel c with waiting := false }
    | .running | .paused | .notifying =>
      t.channel c = { s.channel c with
        state := .off, code := code, reason := none, latch := false, pause := false, waiting := false, records := []
        notice := none, payload := none } ∧
      ((s.channel c).desc.errIrq = true → t.flag (.chErr c) = true)) ∧
  (∀ g : Tag, (t.entry g).state = .free ∧ (t.entry g).deadline = none ∧ (t.entry g).quarantine = none ∧
    (t.entry g).sendingMark = false ∧ (t.entry g).landingMark = false) ∧
  t.tracker.queued = [] ∧
  t.inbound.queue = [] ∧ t.inbound.responses = [] ∧ t.inbound.dataSlot = none ∧ t.inbound.engine = .idle ∧
  t.inbound.windows = s.inbound.windows ∧
  t.rx.buffer = [] ∧ t.notices.queue = s.notices.queue ∧ t.notices.seq = s.notices.seq ∧
  (match s.notices.slot.state with
    | .sending _ =>
      t.notices.slot = { s.notices.slot with state := .done, result := .peerLost, reason := none } ∧
      t.flag .hostNoticeDone = true
    | .idle | .done => t.notices.slot = s.notices.slot) ∧
  t.member.listen = none ∧ t.member.heartbeat = .stopped ∧ t.member.drain = none ∧ t.member.control = [] ∧
  t.member.number = s.member.number ∧ t.member.tResp = s.member.tResp ∧ t.member.tHb = s.member.tHb ∧
  t.link.unit = .waiting ∧ t.flag .stationState = true ∧
  t.port.landing = none ∧ t.port.service = none ∧ t.port.fetches = [] ∧
  (∀ b : Burst, s.port.state = .burst b → t.port.state = .burst { b with cancelled := true })

/-- The host's configuration and what only the host's own commands, the resets and the station's state changes write. -/
def SameConfiguration (s t : State) : Prop :=
  t.member.number = s.member.number ∧ t.member.tResp = s.member.tResp ∧ t.member.tHb = s.member.tHb ∧
  t.member.state = s.member.state ∧ t.member.cause = s.member.cause ∧ t.member.roster = s.member.roster ∧
  t.inbound.windows = s.inbound.windows ∧ t.holdDepth = s.holdDepth ∧ t.host.enables = s.host.enables ∧
  t.host.refusal = s.host.refusal ∧ t.host.resetLow = s.host.resetLow ∧ t.ramWrites = s.ramWrites ∧
  t.pending = s.pending ∧ ∀ c : ChannelNo, (t.channel c).desc = (s.channel c).desc

end Sys2Proof.Safety
end

