-- ==== Sys2Proof/Certificates/Slice0/Obligations.lean ====
section
/-!
DEFINITION. The statements about the model, for the provers. OBLIGATIONS.json lists them with the rules they rest on.
`exec i s = .next t` with `t` written out also says what `i` leaves unchanged. Where a command makes other work due,
`t` is `State.settle` of the written state: what settling keeps is stated of `settle` itself.
-/

section SliceStatements

open Sys2Proof Sys2Proof.Machine Sys2Proof.Safety

/-! ## Steps -/

/-- A step takes the command at the front of the queue, with the queue's rest (log entry 1). -/
def Obligations.StepTakesTheFront : Prop :=
  ∀ (c : Instr) (rest : List Instr) (s : State), step { s with pending := c :: rest } = exec c { s with pending := rest }

/-- The model's choice (log entry 8): with no command waiting a step is one µs, in which every running timer advances (the
deadlines and quarantines, the segment, end notice and host notice backoffs, the silence, listen, heartbeat and drain timers)
and the idle measure of an idle medium, and nothing else changes; with RESET_N low nothing does (R196). -/
def Obligations.EmptyQueueIsOneMicrosecond : Prop :=
  ∀ s : State, s.pending = [] →
    (s.host.resetLow = true → step s = .next s) ∧
    (s.host.resetLow = false → ∃ t : State, step s = .next t ∧
      (∀ g : Tag, t.entry g = { s.entry g with
        deadline := (s.entry g).deadline.map (· - 1), quarantine := (s.entry g).quarantine.map (· - 1) }) ∧
      t.tracker.queued = s.tracker.queued ∧
      (∀ c : ChannelNo, t.channel c = { s.channel c with
        records := (s.channel c).records.map fun r => match r.state with
          | .backoff n => { r with state := .backoff (n - 1) }
          | .pending | .outstanding _ | .done => r
        notice := (s.channel c).notice.map fun x => match x.phase with
          | .backoff n => { x with phase := .backoff (n - 1) }
          | .waiting | .tagged _ => x }) ∧
      t.notices = { s.notices with slot := match s.notices.slot.state with
        | .sending (.backoff n) => { s.notices.slot with state := .sending (.backoff (n - 1)) }
        | .idle | .done | .sending .waiting | .sending (.tagged _) => s.notices.slot } ∧
      (∀ n : StationNo, t.rosterEntry n = { s.rosterEntry n with presence := match (s.rosterEntry n).presence with
        | .present us => .present (us + 1)
        | .absent => .absent }) ∧
      t.member = { s.member with
        listen := s.member.listen.map (· - 1), drain := s.member.drain.map (· - 1), roster := t.member.roster
        heartbeat := match s.member.heartbeat with
          | .running us => .running (us + 1)
          | .stopped => .stopped
          | .expired => .expired } ∧
      t.link = { s.link with
        idle := if s.link.unit = .waiting ∧ s.rx.state ≠ .framing then s.link.idle + 1 else s.link.idle } ∧
      t.host = s.host ∧ t.inbound = s.inbound ∧ t.port = s.port ∧ t.rx = s.rx ∧ t.holdDepth = s.holdDepth ∧
      t.ramWrites = s.ramWrites ∧ t.pending = [])

/-- No well-formed command ends in a fault or a refusal, whatever the state. -/
def Obligations.EveryCommandCompletes : Prop :=
  ∀ (i : Instr) (s : State), i.wellFormed = true → ∃ t : State, exec i s = .next t

/-! ## What settling does -/

/-- The work done inside an event's step changes no setting, no roster entry and no station state. -/
def Obligations.SettleKeepsConfiguration : Prop :=
  ∀ s : State, SameConfiguration s s.settle ∧
    ∀ old : List (ChannelNo × BurstRequest), SameConfiguration s (s.settleFrom old)

/-- Settling does the work that is due, and no other: where nothing is due it changes nothing, and after it no start is due, the
channels that may issue ask for a tag and no other, an owner still waiting finds no FREE tag, an IDLE engine has no head, no
frame is to be dispatched and a quiet drain has ended (R7, R10, R13, R37, R38, R76, R112, R162); the work is said of states with
at most four frames in the Receive Buffer, whose marks and timers are as StepKeepsTrackerTimers says. That this is the work of an
event's own step, and that a held answer with room in the Response Queue is no part of it, are the model's choices (log entries
5, 7 and 22). -/
def Obligations.SettleIsIdleWhenNothingIsDue : Prop :=
  ∀ s : State, (NothingDue s → s.settle = s) ∧
    (TrackerTimers s → s.rx.buffer.length ≤ 4 → WorkDone s.settle ∧ ∀ old : List (ChannelNo × BurstRequest), WorkDone (s.settleFrom old))

/-! ## Station commands (05, 09) -/

/-- JOIN in OFFLINE: the four tests decide between LISTENING and CONFIG_INVALID (R66, R108). -/
def Obligations.JoinByItsTests : Prop :=
  ∀ (op : BitVec 3) (s : State), s.host.resetLow = false → s.member.state = .offline →
    (JoinTests s → exec (.join op) s = .next
      (let u : State := stationChanged s .listening .none
       { u with member := { u.member with listen := some (4 * (s.member.tHb.toNat * 1000)) } })) ∧
    (¬ JoinTests s → exec (.join op) s = .next (refusedCommand s 0x01 op .configInvalid))

/-- LEAVE in ONLINE: LEAVING with the drain timer at 4 × T_resp × 16 µs and a HELLO carrying LEAVING, or the drain already
ended, with its LEAVE, where both blocks are quiet (R107, R111, R112). -/
def Obligations.LeaveStartsTheDrain : Prop :=
  ∀ (op : BitVec 3) (s : State), s.host.resetLow = false → s.member.state = .online →
    ∃ t : State, exec (.leave op) s = .next t ∧
      t.member.state = .leaving ∧ t.member.cause = .none ∧ t.flag .stationState = true ∧
      (let kept := s.member.control.filter fun f => f.sending || !f.kind.helloOnline
       let hello := kept ++ [{ kind := .hello .leaving false }]
       (t.member.drain = some (4 * (s.member.tResp.toNat * 16)) ∧ t.member.control = hello ∧
          ¬ (t.trackerQuiet = true ∧ t.inboundQuiet = true)) ∨
       (t.member.drain = none ∧ t.member.control = hello ++ [{ kind := .leave }] ∧
          t.trackerQuiet = true ∧ t.inboundQuiet = true)) ∧
      t.member.number = s.member.number ∧ t.member.tResp = s.member.tResp ∧ t.member.tHb = s.member.tHb ∧
      t.member.heartbeat = s.member.heartbeat ∧ t.member.roster = s.member.roster ∧
      t.inbound.windows = s.inbound.windows ∧ t.holdDepth = s.holdDepth ∧ t.ramWrites = s.ramWrites

/-- LEAVE in LISTENING goes back to OFFLINE at once (R31, R111, R148). -/
def Obligations.LeaveInListeningGoesOffline : Prop :=
  ∀ (op : BitVec 3) (s : State), s.host.resetLow = false → s.member.state = .listening →
    ∃ t : State, exec (.leave op) s = .next t ∧ t.member.state = .offline ∧ t.member.cause = .none ∧
      Quiesced .left s t ∧ t.link.garble = 0 ∧ t.member.roster = s.member.roster ∧ t.holdDepth = s.holdDepth ∧
      t.host.refusal = s.host.refusal ∧ t.host.enables = s.host.enables ∧ t.ramWrites = s.ramWrites

/-- STATION_RESET in every station state: what it keeps, and the reset values of the rest (R32, R63, R87, R119, R149, R167,
R182, R189 to R191, R198). -/
def Obligations.StationResetKeepsItsList : Prop :=
  ∀ (op : BitVec 3) (s : State), s.host.resetLow = false →
    ∃ t : State, exec (.stationReset op) s = .next t ∧
      (∀ c : ChannelNo, t.channel c = ({
        desc := (s.channel c).desc, front := (s.channel c).front, remaining := (s.channel c).remaining
        curRemote := (s.channel c).curRemote, curLocal := (s.channel c).curLocal } : Channel)) ∧
      t.holdDepth = 0 ∧ t.tracker = ({} : Tracker) ∧ t.inbound = { windows := s.inbound.windows } ∧
      t.notices = ({} : NoticeUnit) ∧
      t.member = { number := s.member.number, tResp := s.member.tResp, tHb := s.member.tHb } ∧
      t.link = ({} : LinkUnit) ∧ t.rx = ({} : Receiver) ∧
      t.port.state = .free ∧ t.port.landing = none ∧ t.port.service = none ∧ t.port.fetches = [] ∧
      t.host = { enables := s.host.enables, resetLow := false } ∧ t.ramWrites = s.ramWrites

/-- Both resets put the Host Notice Slot in IDLE with every field zero, waiting for no tag, with every entry FREE and
HOST_NOTICE_DONE clear (R102). -/
def Obligations.ResetsClearTheSlot : Prop :=
  (∀ s : State, ∃ t : State, exec .hardwareReset s = .next t ∧
    t.notices.slot = { peer := 0, code := 0, state := .idle, result := .none, reason := none, attempts := 0, busy := 0 } ∧
    t.slotWaits = false ∧ (∀ g : Tag, (t.entry g).state = .free) ∧ t.flag .hostNoticeDone = false) ∧
  (∀ (op : BitVec 3) (s : State), s.host.resetLow = false → ∃ t : State, exec (.stationReset op) s = .next t ∧
    t.notices.slot = { peer := 0, code := 0, state := .idle, result := .none, reason := none, attempts := 0, busy := 0 } ∧
    t.slotWaits = false ∧ (∀ g : Tag, (t.entry g).state = .free) ∧ t.flag .hostNoticeDone = false)

/-- HOLD_UP and HOLD_DOWN between the limits, SEND_NOTICE taken, and POP_NOTICE with a notice waiting (R10, R96, R97). -/
def Obligations.HoldAndNoticeCommandsTaken : Prop :=
  (∀ (op : BitVec 3) (s : State), s.host.resetLow = false →
    (s.holdDepth < 15 → ∃ t : State, exec (.holdUp op) s = .next t ∧
      t = { s with holdDepth := s.holdDepth + 1, channels := t.channels } ∧
      ∀ c : ChannelNo, t.channel c = { s.channel c with waiting := false }) ∧
    (2 ≤ s.holdDepth → exec (.holdDown op) s = .next { s with holdDepth := s.holdDepth - 1 }) ∧
    (s.holdDepth = 1 → exec (.holdDown op) s = .next (State.settle { s with holdDepth := 0 }))) ∧
  (∀ (op : BitVec 3) (s : State), s.host.resetLow = false → s.member.state = .online →
    s.notices.slot.state.isSending = false → s.notices.slot.peer ≠ 31 → s.notices.slot.peer ≠ s.member.number →
    exec (.sendNotice op) s = .next (State.settle { s with notices := { s.notices with
      slot := { peer := s.notices.slot.peer, code := s.notices.slot.code, state := .sending .waiting
                result := .none, reason := none, attempts := 0, busy := 0 } } })) ∧
  (∀ (op : BitVec 3) (n : QueuedNotice) (rest : List QueuedNotice) (s : State), s.host.resetLow = false →
    s.notices.queue = n :: rest →
    exec (.popNotice op) s = .next { s with notices := { s.notices with queue := rest } })

/-- CLEAR_COUNTERS sets the three counters to 0 and changes nothing else, in every state and with every operand; both resets
set them to 0 (R194). -/
def Obligations.ClearCountersClearsAllThree : Prop :=
  (∀ (op : BitVec 3) (s : State), s.host.resetLow = false →
    exec (.clearCounters op) s = .next { s with rx := { s.rx with badFrame := 0, stale := 0, dropped := 0 } }) ∧
  (∀ (op : BitVec 3) (s : State), s.host.resetLow = false → ∃ t : State, exec (.stationReset op) s = .next t ∧
    t.rx.badFrame = 0 ∧ t.rx.stale = 0 ∧ t.rx.dropped = 0) ∧
  (∀ s : State, ∃ t : State, exec .hardwareReset s = .next t ∧ t.rx.badFrame = 0 ∧ t.rx.stale = 0 ∧ t.rx.dropped = 0)

/-- Commands refused for the state they meet, a channel command whose operand is 6 or 7, before any test of its own, and a code
of no command: the record and CMD_REFUSED change, and nothing else (R10, R96, R97, R108, R111, R188, R189). -/
def Obligations.CommandsRefused : Prop :=
  (∀ (op : BitVec 3) (s : State), s.host.resetLow = false →
    (s.member.state ≠ .offline → exec (.join op) s = .next (refusedCommand s 0x01 op .wrongState)) ∧
    (s.member.state = .offline ∨ s.member.state = .leaving ∨ s.member.state = .conflict →
      exec (.leave op) s = .next (refusedCommand s 0x02 op .wrongState)) ∧
    (15 ≤ s.holdDepth → exec (.holdUp op) s = .next (refusedCommand s 0x04 op .holdLimit)) ∧
    (s.holdDepth = 0 → exec (.holdDown op) s = .next (refusedCommand s 0x05 op .holdLimit)) ∧
    (s.member.state ≠ .online ∨ s.notices.slot.state.isSending = true →
      exec (.sendNotice op) s = .next (refusedCommand s 0x06 op .wrongState)) ∧
    (s.member.state = .online → s.notices.slot.state.isSending = false →
      s.notices.slot.peer = 31 ∨ s.notices.slot.peer = s.member.number →
      exec (.sendNotice op) s = .next (refusedCommand s 0x06 op .badOperand)) ∧
    (s.notices.queue = [] → exec (.popNotice op) s = .next (refusedCommand s 0x07 op .queueEmpty))) ∧
  (∀ (op : BitVec 3) (s : State), s.host.resetLow = false → 6 ≤ op.toNat →
    exec (.chEnable op) s = .next (refusedCommand s 0x10 op .badOperand) ∧
    exec (.chStart op) s = .next (refusedCommand s 0x11 op .badOperand) ∧
    exec (.chPause op) s = .next (refusedCommand s 0x12 op .badOperand) ∧
    exec (.chResume op) s = .next (refusedCommand s 0x13 op .badOperand) ∧
    exec (.chAbort op) s = .next (refusedCommand s 0x14 op .badOperand) ∧
    exec (.chDisable op) s = .next (refusedCommand s 0x15 op .badOperand)) ∧
  (∀ (code : BitVec 8) (op : BitVec 3) (s : State), s.host.resetLow = false →
    code = 0 ∨ (9 ≤ code.toNat ∧ code.toNat ≤ 0x0F) ∨ 0x16 ≤ code.toNat →
    exec (.unknownCommandCode code op) s = .next (refusedCommand s code op .badOperand))

/-! ## Channel commands (01) -/

/-- CH_ENABLE on an OFF channel: ARMED where R2's conditions hold, DESCRIPTOR_INVALID with BAD_DESCRIPTOR where one fails
(R2, R3); WRONG_STATE on any other. -/
def Obligations.ChEnableValidatesAndArms : Prop :=
  ∀ (c : ChannelNo) (s : State), s.host.resetLow = false →
    let op := BitVec.ofNat 3 c.val
    let ch := s.channel c
    (ch.state = .off → DescriptorTests ch.desc s.member.number →
      exec (.chEnable op) s = .next (s.setChannel c { ch with
        state := .armed, latch := false, pause := false, overrun := false, waiting := false, front := 0
        remaining := ch.desc.length.toNat, curRemote := ch.desc.remote, curLocal := ch.desc.localAddr
        code := .none, reason := none, records := [], notice := none, payload := none })) ∧
    (ch.state = .off → ¬ DescriptorTests ch.desc s.member.number →
      exec (.chEnable op) s = .next
        (refusedCommand (s.setChannel c { ch with code := .badDescriptor }) 0x10 op .descriptorInvalid)) ∧
    (ch.state ≠ .off → exec (.chEnable op) s = .next (refusedCommand s 0x10 op .wrongState))

/-- CH_START: latched, lost as an overrun, or refused in OFF; and the start, by the command or by CHANNEL_START (R5, R6, R7). That
CHANNEL_START changes nothing where no start is due is the model's choice (log entries 4 and 5). -/
def Obligations.ChStartTriggersAndStarts : Prop :=
  ∀ (c : ChannelNo) (s : State), s.host.resetLow = false →
    let op := BitVec.ofNat 3 c.val
    let ch := s.channel c
    let held := s.member.state ≠ .online ∨ s.holdDepth ≠ 0 ∨ ch.pause = true
    let started : Channel :=
      { ch with state := .running, latch := false, code := .none, reason := none, cutOffset := ch.front }
    let lost : State := (s.setChannel c { ch with overrun := true })
    let lost : State := { lost with host := { s.host with latched := s.host.latched ||| 0x00080000#32 } }
    (ch.state = .armed → ch.latch = false → held →
      exec (.chStart op) s = .next (s.setChannel c { ch with latch := true })) ∧
    (ch.state = .armed → ch.latch = false → ¬ held →
      exec (.chStart op) s = .next (s.setChannel c started).settle) ∧
    (ch.state = .armed → ch.latch = true → held → exec (.chStart op) s = .next lost) ∧
    (ch.state = .running ∨ ch.state = .paused ∨ ch.state = .notifying → exec (.chStart op) s = .next lost) ∧
    (ch.state = .off → exec (.chStart op) s = .next (refusedCommand s 0x11 op .wrongState)) ∧
    (ch.state = .armed → ch.latch = true → ¬ held →
      exec (.channelStart c) s = .next (s.setChannel c started).settle) ∧
    (ch.state ≠ .armed ∨ ch.latch = false ∨ held → exec (.channelStart c) s = .next s)

/-- CH_PAUSE and CH_RESUME in every channel state (R8, R9). -/
def Obligations.PauseAndResume : Prop :=
  ∀ (c : ChannelNo) (s : State), s.host.resetLow = false →
    let op := BitVec.ofNat 3 c.val
    let ch := s.channel c
    (ch.state = .running →
      exec (.chPause op) s = .next (s.setChannel c { ch with state := .paused, pause := true, waiting := false })) ∧
    (ch.state = .armed ∨ ch.state = .paused ∨ ch.state = .notifying →
      exec (.chPause op) s = .next (s.setChannel c { ch with pause := true, waiting := false })) ∧
    (ch.state = .off → exec (.chPause op) s = .next (refusedCommand s 0x12 op .wrongState)) ∧
    (ch.state = .paused → exec (.chResume op) s = .next (s.setChannel c { ch with state := .running, pause := false }).settle) ∧
    (ch.state = .armed ∨ ch.state = .notifying →
      exec (.chResume op) s = .next (s.setChannel c { ch with pause := false }).settle) ∧
    (ch.state = .running → exec (.chResume op) s = .next s) ∧
    (ch.state = .off → exec (.chResume op) s = .next (refusedCommand s 0x13 op .wrongState))

/-- CH_ABORT: the channel is OFF with ABORTED, its front and cut offset kept; its QUEUED entries are FREE and out of the order, its
LIVE ones ABANDONED with their deadlines, its fetches withdrawn. A send of a QUEUED one is cut short: the unit waits, the spent
flag is set, the level pointer moves for a request, the garble count stays; a claim for one is abandoned, which leaves flag and
pointers. A landing of a LIVE one ends and its frame leaves the Receive Buffer. Then the freed tags are offered, which changes
none of it (R16, R23, R27, R28, R42, R47, R57, R134, R135, R140, R146, R178). That the receiver skips the cut frame from this step
on is the model's choice (log entry 25). -/
def Obligations.ChAbortEndsTheTransfer : Prop :=
  ∀ (c : ChannelNo) (s : State), s.host.resetLow = false →
    let op := BitVec.ofNat 3 c.val
    let ch := s.channel c
    (ch.state ≠ .off → ∃ r : State, exec (.chAbort op) s = .next r.settle ∧
      r.channel c = { ch with
        state := .off, code := .aborted, reason := none, latch := false, pause := false, waiting := false
        records := [], notice := none, payload := none } ∧
      (∀ d : ChannelNo, d ≠ c → r.channel d = s.channel d) ∧
      (∀ g : Tag, (s.entry g).owner ≠ .channel c → r.entry g = s.entry g) ∧
      (∀ g : Tag, (s.entry g).owner = .channel c → r.entry g = match (s.entry g).state with
        | .queued => { s.entry g with
            state := .free, sendingMark := false, landingMark := false, deadline := none, quarantine := none }
        | .live => { s.entry g with state := .abandoned, landingMark := false }
        | .free | .abandoned | .quarantined => s.entry g) ∧
      r.tracker.queued = s.tracker.queued.filter (fun g =>
        ¬ ((s.entry g).owner = .channel c ∧ (s.entry g).state = .queued)) ∧
      (∀ g : Tag, (s.entry g).owner = .channel c → (s.entry g).state = .queued →
        let l : LinkUnit := { s.link with unit := .waiting, idle := 0 }
        (s.link.unit = .sending (.entry g) →
          r.link = (if (s.entry g).kind = .notice then { l with spent := true }
            else if ch.desc.priority = .high then { l with spent := true, highPtr := c }
            else { l with spent := true, lowPtr := c }) ∧
          (s.rx.state = .framing → r.rx.state = .skipping ∧ r.rx.inProgress = none)) ∧
        (s.link.unit = .claiming (.entry g) → r.link = l ∧ r.rx.state = s.rx.state ∧ r.rx.inProgress = s.rx.inProgress) ∧
        ((s.entry g).kind = .write → r.port.fetches = s.port.fetches.filter (·.1 ≠ c) ∧
          ∀ b : Burst, s.port.state = .burst b → b.requester = .fetch c →
            r.port.state = .burst { b with cancelled := true })) ∧
      ((∀ g : Tag, (s.entry g).owner = .channel c → (s.entry g).state = .queued →
          s.link.unit ≠ .sending (.entry g) ∧ s.link.unit ≠ .claiming (.entry g)) →
        r.link = s.link ∧ r.rx = { s.rx with buffer := r.rx.buffer }) ∧
      (∀ g : Tag, (s.entry g).owner = .channel c → (s.entry g).state = .live → (s.entry g).landingMark = true →
        (∀ h : Tag, (s.entry h).landingMark = true → h = g) →
        r.rx.buffer = s.rx.buffer.tail ∧ r.port.landing = none ∧
          ∀ b : Burst, s.port.state = .burst b → b.requester = .landing →
            r.port.state = .burst { b with cancelled := true }) ∧
      ((∀ g : Tag, (s.entry g).owner = .channel c → (s.entry g).state = .live → (s.entry g).landingMark = false) →
        r.rx.buffer = s.rx.buffer ∧ r.port.landing = s.port.landing) ∧
      r.link.garble = s.link.garble ∧ (ch.desc.errIrq = true → r.flag (.chErr c) = true) ∧ SameConfiguration s r ∧
      r.settle.channel c = r.channel c ∧ (ch.desc.errIrq = true → r.settle.flag (.chErr c) = true) ∧
      (∀ g : Tag, (r.settle.entry g).owner = .channel c →
        (r.settle.entry g).state ≠ .queued ∧ (r.settle.entry g).state ≠ .live) ∧
      (∀ g : Tag, (s.entry g).owner = .channel c → (s.entry g).state = .live → r.rx.buffer = [] →
        (r.settle.entry g).state = .abandoned ∧ (r.settle.entry g).deadline = (s.entry g).deadline) ∧
      SameConfiguration s r.settle) ∧
    (ch.state = .off → exec (.chAbort op) s = .next (refusedCommand s 0x14 op .wrongState))

/-- CH_DISABLE takes ARMED to OFF, keeps code and reason, clears latch and pause flag and sets no event flag; in any other
state it is refused (R29). -/
def Obligations.ChDisableTakesArmedToOff : Prop :=
  ∀ (c : ChannelNo) (s : State), s.host.resetLow = false →
    let op := BitVec.ofNat 3 c.val
    let ch := s.channel c
    (ch.state = .armed → ∃ t : State, exec (.chDisable op) s = .next t ∧
      t = s.setChannel c (t.channel c) ∧
      t.channel c = { ch with state := .off, latch := false, pause := false, waiting := false } ∧
      t.eventFlags = s.eventFlags) ∧
    (ch.state ≠ .armed → exec (.chDisable op) s = .next (refusedCommand s 0x15 op .wrongState))

/-! ## Register writes (09) -/

/-- WINDOW_TABLE_WRITE in OFFLINE is held: the word reads back with the bits the map does not name as 0, and every other
register reads as before (R65, R184, R185). -/
def Obligations.WindowWriteReadsBack : Prop :=
  ∀ (n : Fin 8) (w : Fin 4) (v : Word) (s : State), s.host.resetLow = false → s.member.state = .offline →
    ∃ t : State, exec (.windowTableWrite n w v) s = .next t ∧
      t = { s with inbound := { s.inbound with windows := t.inbound.windows } } ∧
      t.readRegister (windowAddress n w) = v &&& windowMask w ∧
      ∀ a : BitVec 8, a ≠ windowAddress n w → t.readRegister a = s.readRegister a

/-- DESCRIPTOR_WRITE on an OFF channel is held, in every station state, and reads back likewise (R1, R184, R185). -/
def Obligations.DescriptorWriteReadsBack : Prop :=
  ∀ (c : ChannelNo) (w : Fin 8) (v : Word) (s : State), s.host.resetLow = false → (s.channel c).state = .off →
    ∃ t : State, exec (.descriptorWrite c w v) s = .next t ∧
      t = s.setChannel c { s.channel c with desc := (t.channel c).desc } ∧
      t.readRegister (descriptorAddress c w) = v &&& descriptorMask w ∧
      ∀ a : BitVec 8, a ≠ descriptorAddress c w → t.readRegister a = s.readRegister a

/-- STN_NUMBER_WRITE and TIMING_WRITE in OFFLINE: the settings take the fields of the word, and the roster entry of the new
number is ABSENT, its change flag set where it was PRESENT (R105, R120, R187). That a write of TIMING stops, starts and expires
no timer in its own step is the model's choice (log entry 10). -/
def Obligations.SettingsAreWrittenInOffline : Prop :=
  ∀ (v : Word) (s : State), s.host.resetLow = false → s.member.state = .offline →
    (let n : StationNo := v.extractLsb' 0 5
     (s.isPresent n = false → exec (.stnNumberWrite v) s = .next { s with member := { s.member with number := n } }) ∧
     (s.isPresent n = true → ∃ t : State, exec (.stnNumberWrite v) s = .next t ∧ t.member.number = n ∧
        t.rosterEntry n = { presence := .absent, leaving := false, changed := true } ∧
        (∀ m : StationNo, m ≠ n → t.rosterEntry m = s.rosterEntry m) ∧
        (∀ g : Tag, (t.entry g).peer = n → ¬ InFlight (t.entry g)) ∧
        t.member.tResp = s.member.tResp ∧ t.member.tHb = s.member.tHb ∧ t.member.state = .offline ∧
        t.inbound.windows = s.inbound.windows ∧ t.host.refusal = s.host.refusal ∧ t.ramWrites = s.ramWrites)) ∧
    exec (.timingWrite v) s = .next { s with member := { s.member with
      tResp := v.extractLsb' 0 12, tHb := v.extractLsb' 16 8 } }

/-- Writes whose condition does not hold are ignored and recorded with the register's byte offset (R1, R97, R105, R186). -/
def Obligations.LockedWritesAreRecorded : Prop :=
  ∀ (v : Word) (s : State), s.host.resetLow = false →
    (s.member.state ≠ .offline →
      exec (.stnNumberWrite v) s = .next (lockedWriteTo s 0x000) ∧
      exec (.timingWrite v) s = .next (lockedWriteTo s 0x008) ∧
      ∀ (n : Fin 8) (w : Fin 4), exec (.windowTableWrite n w v) s =
        .next (lockedWriteTo s (BitVec.ofNat 10 (0x080 + 0x10 * n.val + 4 * w.val)))) ∧
    (∀ (c : ChannelNo) (w : Fin 8), (s.channel c).state ≠ .off → exec (.descriptorWrite c w v) s =
        .next (lockedWriteTo s (BitVec.ofNat 10 (0x100 + 0x20 * c.val + 4 * w.val)))) ∧
    (s.notices.slot.state.isSending = true → exec (.hnSendWrite v) s = .next (lockedWriteTo s 0x038))

/-- A write to the register window is the command that its offset and word spell: a word written to COMMAND by its bits 7-0 and
10-8, the other bits not read (R184, R185, R188). HN_SEND, EVT_FLAGS and EVT_ENABLE held, a write to an offset that holds
nothing to write, and IRQ_N (R97, R185, R190, R191, R196). -/
def Obligations.HostPortWrites : Prop :=
  (∀ (unread : BitVec 21) (op : BitVec 3),
    let command : BitVec 8 → Instr := fun code => registerWrite 0x03 (unread ++ op ++ code)
    command 0x01 = .join op ∧ command 0x02 = .leave op ∧ command 0x03 = .stationReset op ∧ command 0x04 = .holdUp op ∧
    command 0x05 = .holdDown op ∧ command 0x06 = .sendNotice op ∧ command 0x07 = .popNotice op ∧
    command 0x08 = .clearCounters op ∧ command 0x10 = .chEnable op ∧ command 0x11 = .chStart op ∧
    command 0x12 = .chPause op ∧ command 0x13 = .chResume op ∧ command 0x14 = .chAbort op ∧
    command 0x15 = .chDisable op ∧
    ∀ code : BitVec 8, code = 0 ∨ (9 ≤ code.toNat ∧ code.toNat ≤ 0x0F) ∨ 0x16 ≤ code.toNat →
      command code = .unknownCommandCode code op) ∧
  (∀ v : Word, registerWrite 0x00 v = .stnNumberWrite v ∧ registerWrite 0x02 v = .timingWrite v ∧
    registerWrite 0x05 v = .evtFlagsWrite v ∧ registerWrite 0x06 v = .evtEnableWrite v ∧
    registerWrite 0x0E v = .hnSendWrite v ∧ registerWrite 0x12 v = .rosterChangeWrite v ∧
    (∀ (n : Fin 8) (w : Fin 4), registerWrite (windowAddress n w) v = .windowTableWrite n w v) ∧
    (∀ (c : ChannelNo) (w : Fin 8), registerWrite (descriptorAddress c w) v = .descriptorWrite c w v) ∧
    ∀ a : BitVec 8, (registerWrite a v).wellFormed = true ∧
      (writableRegister a = false → registerWrite a v = .otherRegisterWrite a v)) ∧
  (∀ (v : Word) (s : State), s.host.resetLow = false →
    (s.notices.slot.state.isSending = false → exec (.hnSendWrite v) s = .next { s with notices := { s.notices with
      slot := { s.notices.slot with peer := v.extractLsb' 0 5, code := v.extractLsb' 16 16 } } }) ∧
    exec (.evtFlagsWrite v) s = .next { s with host := { s.host with latched := s.host.latched &&& ~~~v } } ∧
    exec (.evtEnableWrite v) s = .next { s with host := { s.host with enables := v &&& 0x030F3F3F } }) ∧
  (∀ (a : BitVec 8) (v : Word) (s : State), writableRegister a = false ∨ s.host.resetLow = true →
    exec (.otherRegisterWrite a v) s = .next s) ∧
  (∀ s : State, s.irqAsserted = true ↔
    s.host.resetLow = false ∧ ∃ b : Fin 32, s.eventFlags.getLsbD b.val = true ∧ s.host.enables.getLsbD b.val = true)

/-- ROSTER_CHANGE_WRITE clears the change flags whose bit is one and leaves the rest of the roster (R127, R187). -/
def Obligations.RosterChangeWriteClearsOnes : Prop :=
  ∀ (v : Word) (s : State), s.host.resetLow = false →
    ∃ t : State, exec (.rosterChangeWrite v) s = .next t ∧
      t = { s with member := { s.member with roster := t.member.roster } } ∧
      ∀ n : StationNo, t.rosterEntry n =
        { s.rosterEntry n with changed := (s.rosterEntry n).changed && !v.getLsbD n.toNat }

/-! ## RESET_N and the trigger lines (09) -/

/-- HARDWARE_RESET in every state, and RESET_RELEASE after it (R182, R195, R197). The model's choices in it: the station number 0
while RESET_N is low (log entry 3), the kept queue (log entry 1) and written words (log entry 6), and that RESET_RELEASE with
RESET_N high changes nothing (log entry 4). -/
def Obligations.HardwareResetAndRelease : Prop :=
  (∀ s : State, ∃ t : State, exec .hardwareReset s = .next t ∧
    t = { State.reset with port := t.port, ramWrites := s.ramWrites, pending := s.pending } ∧
    t.port.state = .free ∧ t.port.landing = none ∧ t.port.service = none ∧ t.port.fetches = [] ∧
    t.port.tail = match s.port.state with
      | .burst b => some { dir := b.req.dir, addr := b.req.addr b.done, data := b.req.data.getD b.done 0 }
      | _ => s.port.tail) ∧
  (∀ (straps : BitVec 5) (s : State),
    (s.host.resetLow = true → exec (.resetRelease straps) s = .next { s with
      host := { s.host with resetLow := false }
      member := { s.member with number := straps, tResp := 64, tHb := 10 } }) ∧
    (s.host.resetLow = false → exec (.resetRelease straps) s = .next s))

/-- With RESET_N low the station takes no event, in every state, reads return 0 and IRQ_N is released; all that goes on is the end
of a word that the reset left in transfer, the port having no burst: it completes, or ends with the bus's error and is not written
(R179, R182, R196). That without such a word those events change nothing, and that written words are kept as a record, are the
model's choices (log entries 4 and 6). -/
def Obligations.ResetLowTakesNoEvent : Prop :=
  ∀ s : State, s.host.resetLow = true →
    (∀ i : Instr, i.wellFormed = true → i ≠ .hardwareReset → (∀ straps : BitVec 5, i ≠ .resetRelease straps) →
      (∀ w : Word, i ≠ .wordTransferEnd w ∧ i ≠ .burstEnd w) → i ≠ .busError → exec i s = .next s) ∧
    ((∀ b : Burst, s.port.state ≠ .burst b) → ∀ w : Word,
      (s.port.tail = none →
        exec (.wordTransferEnd w) s = .next s ∧ exec (.burstEnd w) s = .next s ∧ exec .busError s = .next s) ∧
      (∀ x : WordTransfer, s.port.tail = some x →
        let u : State := { s with port := { s.port with tail := none } }
        let v : State := { u with ramWrites := if x.dir = .write then s.ramWrites ++ [(x.addr, x.data)] else s.ramWrites }
        exec (.wordTransferEnd w) s = .next v ∧ exec (.burstEnd w) s = .next v ∧ exec .busError s = .next u)) ∧
    (∀ a : BitVec 8, s.readRegister a = 0) ∧ s.irqAsserted = false

/-- TRIGGER_EDGE acts on every channel whose source is the line, by R5 and R6, and on no other (R4); where a channel's start
conditions then hold (R7), the starts and what they make due are taken in the same step. -/
def Obligations.TriggerEdgeReachesItsChannels : Prop :=
  ∀ (line : Fin 2) (s : State), s.host.resetLow = false →
    ∃ t : State,
      exec (.triggerEdge line) s = .next (if ∃ c : ChannelNo, (t.channel c).state = .armed ∧ (t.channel c).latch = true ∧
          (t.channel c).pause = false ∧ s.member.state = .online ∧ s.holdDepth = 0
        then t.settle else t) ∧
      t = { s with channels := t.channels, host := { s.host with latched := t.host.latched } } ∧
      (∀ c : ChannelNo,
        let ch := s.channel c
        let hit : Prop := ch.desc.triggerSource = (if line = 0 then .line0 else .line1) ∧ ch.state ≠ .off
        (¬ hit → t.channel c = ch) ∧
        (hit → ch.state = .armed → ch.latch = false → t.channel c = { ch with latch := true }) ∧
        (hit → ch.state ≠ .armed ∨ ch.latch = true → t.channel c = { ch with overrun := true })) ∧
      t.host.latched = s.host.latched ||| (if ∃ c : ChannelNo,
          (s.channel c).desc.triggerSource = (if line = 0 then .line0 else .line1) ∧ (s.channel c).state ≠ .off ∧
          ((s.channel c).state ≠ .armed ∨ (s.channel c).latch = true)
        then 0x00080000#32 else 0)

/-! ## Issuing and tags (01, 02) -/

/-- SEGMENT_ISSUE with a FREE tag, a usable peer and no other owner waiting: a record that is PENDING is issued again, the
first of them; where none is, nor in BACKOFF with its timer expired, a segment is cut; the record is OUTSTANDING with the
lowest FREE tag, the entry QUEUED, and a PUSH asks for its payload (R11 to R16, R36, R170). That a record whose backoff has run
out waits for SEGMENT_BACKOFF_EXPIRY, so that SEGMENT_ISSUE passes over it and changes nothing where no other record is PENDING,
is the model's choice (log entries 4, 5 and 8). -/
def Obligations.SegmentIssueQueuesARequest : Prop :=
  ∀ (c : ChannelNo) (g : Tag) (s : State), s.host.resetLow = false → s.member.state = .online → s.holdDepth = 0 →
    let ch := s.channel c
    let d := ch.desc
    ch.state = .running → ch.outstandingCount < d.depth → s.ownsQueued (.channel c) = false →
    (s.slotWaits = false → (∀ e : ChannelNo, e ≠ c → (s.channel e).waiting = false) →
      s.lowestFree = some g → s.isPresent d.peer = true → (s.rosterEntry d.peer).leaving = false →
      (∀ (before after : List SegRecord) (r : SegRecord), ch.records = before ++ r :: after →
        (∀ x ∈ before, x.state ≠ .pending) → r.state = .pending →
        exec (.segmentIssue c) s = .next (State.settleFrom
          (issuedRequest s c g (before ++ { r with state := .outstanding g } :: after) ch.cutOffset r.offset r.length)
          s.port.fetches)) ∧
      (ch.cutOffset < d.length.toNat → ch.records.length < 4 →
        (∀ x ∈ ch.records, x.state ≠ .pending ∧ x.state ≠ .backoff 0) →
        let len := min d.segSize.toNat (d.length.toNat - ch.cutOffset)
        exec (.segmentIssue c) s = .next (State.settleFrom
          (issuedRequest s c g (ch.records ++ [{ state := .outstanding g, offset := ch.cutOffset, length := len }])
            (ch.cutOffset + len) ch.cutOffset len)
          s.port.fetches))) ∧
    ((∀ x ∈ ch.records, x.state ≠ .pending) → (∃ x ∈ ch.records, x.state = .backoff 0) →
      exec (.segmentIssue c) s = .next s)

/-- TAG_ALLOCATION: the lowest FREE tag goes to the Host Notice Slot, or to the channel that waits, for its first PENDING segment
or its end notice; a waiting owner whose peer is not usable ends without it; of two owners that wait the slot comes before a
channel and a lower channel before a higher, with the lower tag; and without a waiting owner nothing happens. Of all the tags that
a step leaves FREE, whichever of its events freed them, the lowest goes to the first owner and the next to the next (R15, R25,
R36 to R39, R98). That the work an event makes due is settled in its own step, its tags last, is the model's reading (log
entries 5 and 7). -/
def Obligations.TagsAreOffered : Prop :=
  (∀ (g : Tag) (s : State), s.host.resetLow = false → s.lowestFree = some g →
    (s.slotWaits = true → (∀ c : ChannelNo, (s.channel c).waiting = false) →
      s.isPresent s.notices.slot.peer = true → (s.rosterEntry s.notices.slot.peer).leaving = false →
      exec .tagAllocation s = .next (State.settle
        (let u : State := s.setEntry g { state := .queued, kind := .notice, owner := .host, peer := s.notices.slot.peer }
         { u with
           tracker := { u.tracker with queued := s.tracker.queued ++ [g] }
           notices := { s.notices with slot := { s.notices.slot with state := .sending (.tagged g) } } }))) ∧
    (s.slotWaits = true → (∀ c : ChannelNo, (s.channel c).waiting = false) →
      s.isPresent s.notices.slot.peer = false ∨ (s.rosterEntry s.notices.slot.peer).leaving = true →
      exec .tagAllocation s = .next (State.settle { s with
        notices := { s.notices with slot := { s.notices.slot with state := .done, result := .peerLost, reason := none } }
        host := { s.host with latched := s.host.latched ||| 0x00020000#32 } })) ∧
    (∀ c : ChannelNo, s.slotWaits = false → (∀ d : ChannelNo, d ≠ c → (s.channel d).waiting = false) →
      (s.channel c).waiting = true → s.wantsTag c = true → (s.channel c).state = .running →
      (s.channel c).records.any (·.isPending) = true →
      s.isPresent (s.channel c).desc.peer = false ∨ (s.rosterEntry (s.channel c).desc.peer).leaving = true →
      ∃ t : State, exec .tagAllocation s = .next t ∧ (t.channel c).state = .off ∧ (t.channel c).code = .peerAbsent ∧
        (t.channel c).front = (s.channel c).front ∧
        ∀ h : Tag, (t.entry h).owner = .channel c → (t.entry h).state ≠ .queued ∧ (t.entry h).state ≠ .live) ∧
    (∀ c : ChannelNo, s.slotWaits = false → (∀ d : ChannelNo, d ≠ c → (s.channel d).waiting = false) →
      (s.channel c).waiting = true → s.wantsTag c = true → (s.channel c).state = .running →
      s.isPresent (s.channel c).desc.peer = true → (s.rosterEntry (s.channel c).desc.peer).leaving = false →
      ∀ (before after : List SegRecord) (r : SegRecord), (s.channel c).records = before ++ r :: after →
        (∀ x ∈ before, x.state ≠ .pending) → r.state = .pending →
        exec .tagAllocation s = .next (State.settleFrom
          (issuedRequest s c g (before ++ { r with state := .outstanding g } :: after) (s.channel c).cutOffset r.offset
            r.length)
          s.port.fetches)) ∧
    (∀ (c : ChannelNo) (n : NoticeRecord), s.slotWaits = false → (∀ d : ChannelNo, d ≠ c → (s.channel d).waiting = false) →
      (s.channel c).waiting = true → s.wantsTag c = true → (s.channel c).state = .notifying →
      (s.channel c).notice = some n →
      (s.isPresent (s.channel c).desc.peer = true → (s.rosterEntry (s.channel c).desc.peer).leaving = false →
        exec .tagAllocation s = .next (State.settle
          (let u : State := s.setChannel c { s.channel c with waiting := false, notice := some { n with phase := .tagged g } }
           let u : State := { u with tracker := { u.tracker with queued := s.tracker.queued ++ [g] } }
           u.setEntry g {
             state := .queued, kind := .notice, owner := .channel c, peer := (s.channel c).desc.peer }))) ∧
      (s.isPresent (s.channel c).desc.peer = false ∨ (s.rosterEntry (s.channel c).desc.peer).leaving = true →
        ∃ t : State, exec .tagAllocation s = .next t ∧ (t.channel c).state = .off ∧ (t.channel c).code = .noticeFailed ∧
          (t.channel c).reason = none)) ∧
    (∀ (c : ChannelNo) (h : Tag), s.rx.buffer = [] → g < h → (s.entry h).state = .free →
      (∀ x : Tag, (s.entry x).state = .free → x = g ∨ h ≤ x) →
      (s.channel c).waiting = true → s.wantsTag c = true → (s.channel c).state = .running →
      (s.channel c).records.any (·.isPending) = true →
      s.isPresent (s.channel c).desc.peer = true → (s.rosterEntry (s.channel c).desc.peer).leaving = false →
      (s.slotWaits = true → (∀ d : ChannelNo, d ≠ c → (s.channel d).waiting = false) →
        s.isPresent s.notices.slot.peer = true → (s.rosterEntry s.notices.slot.peer).leaving = false →
        ∃ t : State, exec .tagAllocation s = .next t ∧ t.notices.slot.state = .sending (.tagged g) ∧
          (t.entry g).state = .queued ∧ (t.entry g).owner = .host ∧
          (t.entry h).state = .queued ∧ (t.entry h).owner = .channel c) ∧
      (∀ d : ChannelNo, c < d → s.slotWaits = false →
        (∀ e : ChannelNo, e ≠ c → e ≠ d → (s.channel e).waiting = false) →
        (s.channel d).waiting = true → s.wantsTag d = true → (s.channel d).state = .running →
        (s.channel d).records.any (·.isPending) = true →
        s.isPresent (s.channel d).desc.peer = true → (s.rosterEntry (s.channel d).desc.peer).leaving = false →
        ∃ t : State, exec .tagAllocation s = .next t ∧
          (t.entry g).state = .queued ∧ (t.entry g).owner = .channel c ∧
          (t.entry h).state = .queued ∧ (t.entry h).owner = .channel d)) ∧
    ((∀ o ∈ ownerOrder, s.waits o = false) → exec .tagAllocation s = .next s)) ∧
  (∀ (s : State) (g h : Tag),
    let t := s.settle
    (s.entry g).state ≠ .queued → (t.entry g).state = .queued →
    (∀ x : Tag, x < g → (t.entry x).state ≠ .free) ∧
    ((s.entry h).state ≠ .queued → (t.entry h).state = .queued →
      ((t.entry g).owner = .host ∧ (t.entry h).owner ≠ .host ∨
        ∃ c d : ChannelNo, (t.entry g).owner = .channel c ∧ (t.entry h).owner = .channel d ∧ c < d) →
      g < h))

/-! ## Reception (02, 03, 04, 07) -/

/-- A window holds, resolves and permits; one with an empty source set answers DENIED (R67). -/
def Obligations.WindowsHoldResolveAndPermit : Prop :=
  (∀ (w : Window) (x : Nat), w.holds x = true ↔
    w.enable = true ∧ w.base.toNat ≤ x ∧ x < w.base.toNat + w.size.toNat) ∧
  (∀ (w : Window) (x : Nat), w.base.toNat ≤ x →
    (w.resolve x).toNat = (w.localBase.toNat + (x - w.base.toNat)) % 2 ^ 32) ∧
  (∀ (w : Window) (src : StationNo) (write : Bool), w.permits src write = true ↔
    w.sources.getLsbD src.toNat = true ∧ (w.access = 2 ∨ (write = false ∧ w.access = 0) ∨ (write = true ∧ w.access = 1))) ∧
  (∀ (s : State) (n : Fin 8) (src : StationNo) (g : Tag) (write : Bool) (addr : BitVec 24) (len : BitVec 16)
    (p : List Byte), s.member.state = .online → FormatGood write addr len p → WindowTests s → (window s n).sources = 0 →
    (window s n).holds addr.toNat = true → (window s n).holds (addr.toNat + len.toNat - 1) = true →
    s.inbound.responses.length < 8 →
    s.requestArrives src g write addr len p = { s with inbound := { s.inbound with
      responses := s.inbound.responses ++ [{ dest := src, tag := g, answer := .refuse .denied }] } })

/-- The arrival checks in their order: format (R70), then window, then access (R72), then room; the first that fails is the
reason of the REFUSE. -/
def Obligations.ArrivalChecksInOrder : Prop :=
  ∀ (s : State) (src : StationNo) (g : Tag) (write : Bool) (addr : BitVec 24) (len : BitVec 16) (p : List Byte),
    (∀ reason : RefuseReason, s.arrivalCheck src write addr len p = .inl reason → s.inbound.responses.length < 8 →
      s.requestArrives src g write addr len p = { s with inbound := { s.inbound with
        responses := s.inbound.responses ++ [{ dest := src, tag := g, answer := .refuse reason }] } }) ∧
    (s.member.state ≠ .online → s.arrivalCheck src write addr len p = .inl .notOnline) ∧
    (s.member.state = .online →
      (s.arrivalCheck src write addr len p = .inl .badRequest ↔ ¬ FormatGood write addr len p) ∧
      (FormatGood write addr len p →
        ((∀ n : Fin 8, (window s n).holds addr.toNat = false) →
          s.arrivalCheck src write addr len p = .inl .outOfWindow) ∧
        (∀ n : Fin 8, WindowTests s → (window s n).holds addr.toNat = true →
          let last := addr.toNat + len.toNat - 1
          let w := window s n
          let allowed : Prop := w.sources.getLsbD src.toNat = true ∧ (w.access = 2 ∨ w.access = (if write then 1 else 0))
          (w.holds last = false → s.arrivalCheck src write addr len p = .inl .outOfWindow) ∧
          (w.holds last = true → ¬ allowed → s.arrivalCheck src write addr len p = .inl .denied) ∧
          (w.holds last = true → allowed → 8 ≤ s.inbound.queue.length →
            s.arrivalCheck src write addr len p = .inl .busy) ∧
          (w.holds last = true → allowed → s.inbound.queue.length < 8 →
            s.arrivalCheck src write addr len p = .inr (w.localBase + BitVec.ofNat 32 (addr.toNat - w.base.toNat))))))

/-- FRAME_DISPATCH of a request: refused into the Response Queue, dropped where that is full, or appended (R68, R73, R74). -/
def Obligations.RequestsAreDispatched : Prop :=
  ∀ (s : State) (f : Frame) (rest : List Frame) (g : Tag) (write : Bool) (addr : BitVec 24) (len : BitVec 16)
    (p : List Byte), s.host.resetLow = false → s.landingTag = none → s.rx.buffer = f :: rest →
    (write = false ∧ p = [] ∧ f.body = .readReq g addr len) ∨ (write = true ∧ f.body = .writeReq g addr len p) →
    let u : State := { s with rx := { s.rx with buffer := rest } }
    (∀ reason : RefuseReason, s.arrivalCheck f.src write addr len p = .inl reason →
      (s.inbound.responses.length < 8 → exec .frameDispatch s = .next (State.settle { u with
        inbound := { s.inbound with
          responses := s.inbound.responses ++ [{ dest := f.src, tag := g, answer := .refuse reason }] } })) ∧
      (8 ≤ s.inbound.responses.length → exec .frameDispatch s = .next (State.settle { u with
        rx := { u.rx with dropped := if s.rx.dropped = 0xFFFF then 0xFFFF else s.rx.dropped + 1 } }))) ∧
    (∀ a : Word, s.arrivalCheck f.src write addr len p = .inr a → exec .frameDispatch s = .next (State.settle { u with
      inbound := { s.inbound with queue := s.inbound.queue ++ [{
        src := f.src, tag := g, write := write, remote := addr, length := len.toNat, localAddr := a, payload := p }] } }))

/-- FRAME_DISPATCH of a notice: the tests of R89 in their order, the first candidate channel by number (R89 to R95). -/
def Obligations.NoticesAreTestedInOrder : Prop :=
  ∀ (s : State) (f : Frame) (rest : List Frame) (g : Tag) (code : BitVec 16), s.host.resetLow = false →
    s.landingTag = none → s.rx.buffer = f :: rest → f.body = .notice g code →
    let u : State := { s with rx := { s.rx with buffer := rest } }
    let answered : Answer → State → State := fun a x => { x with
      inbound := { x.inbound with responses := x.inbound.responses ++ [{ dest := f.src, tag := g, answer := a }] } }
    let droppedOne : State := { u with rx := { u.rx with dropped := if s.rx.dropped = 0xFFFF then 0xFFFF else s.rx.dropped + 1 } }
    let takes : ChannelNo → Prop := fun c =>
      let ch := s.channel c
      ch.state = .armed ∧ ch.desc.triggerSource = .notice ∧ ch.latch = false ∧ ch.desc.triggerCode = code ∧
        (ch.desc.triggerStation = f.src ∨ ch.desc.triggerStation = 31)
    (s.member.state ≠ .online → s.inbound.responses.length < 8 →
      exec .frameDispatch s = .next (answered (.refuse .notOnline) u).settle) ∧
    (8 ≤ s.inbound.responses.length → exec .frameDispatch s = .next droppedOne.settle) ∧
    (s.member.state = .online → s.inbound.responses.length < 8 →
      (∀ c : ChannelNo, takes c → (∀ d : ChannelNo, d < c → ¬ takes d) →
        exec .frameDispatch s = .next (answered .ack (u.setChannel c { s.channel c with latch := true })).settle) ∧
      ((∀ c : ChannelNo, ¬ takes c) → s.notices.queue.length < 8 → exec .frameDispatch s = .next
        (answered .ack { u with notices := { s.notices with
          queue := s.notices.queue ++ [{ src := f.src, code := code, seq := s.notices.seq + 1 }]
          seq := s.notices.seq + 1 } }).settle) ∧
      ((∀ c : ChannelNo, ¬ takes c) → 8 ≤ s.notices.queue.length →
        exec .frameDispatch s = .next (answered (.refuse .noticeFull) u).settle))

/-- FRAME_DISPATCH of an ACK or a REFUSE: stale without a match, absorbed by an ABANDONED entry, and for a LIVE one the entry FREE
and the result with its owner; and what the Host Notice Slot does with each result for the tag it holds (R48 to R52, R60, R99,
R100). -/
def Obligations.AnswersMatchOrAreStale : Prop :=
  (∀ (s : State) (f : Frame) (rest : List Frame) (g : Tag), s.host.resetLow = false → s.landingTag = none →
    s.rx.buffer = f :: rest → f.body = .ack g ∨ (∃ r : RefuseReason, f.body = .refuse g r) →
    let e := s.entry g
    let u : State := { s with rx := { s.rx with buffer := rest } }
    let freed : State := u.setEntry g { e with
      state := .free, sendingMark := false, landingMark := false, deadline := none, quarantine := none }
    (¬ Matches e f.src f.body → exec .frameDispatch s = .next (State.settle { u with
      rx := { u.rx with stale := if s.rx.stale = 0xFFFF then 0xFFFF else s.rx.stale + 1 } })) ∧
    (Matches e f.src f.body → e.state = .abandoned → exec .frameDispatch s = .next freed.settle) ∧
    (Matches e f.src f.body → e.state = .live → e.owner = .host → s.notices.slot.state = .sending (.tagged g) →
      (f.body = .ack g → exec .frameDispatch s = .next (State.settle { freed with
        notices := { s.notices with slot := { s.notices.slot with state := .done, result := .acked, reason := none } }
        host := { s.host with latched := s.host.latched ||| 0x00020000#32 } })) ∧
      (∀ r : RefuseReason, f.body = .refuse g r → r ≠ .busy → r ≠ .noticeFull →
        exec .frameDispatch s = .next (State.settle { freed with
          notices := { s.notices with slot := { s.notices.slot with state := .done, result := .refused, reason := some r } }
          host := { s.host with latched := s.host.latched ||| 0x00020000#32 } }))) ∧
    (Matches e f.src f.body → e.state = .live →
      (f.body = .ack g → exec .frameDispatch s = .next (freed.report e.owner g .completed).settle) ∧
      (∀ r : RefuseReason, f.body = .refuse g r →
        exec .frameDispatch s = .next (freed.report e.owner g (.refused r)).settle))) ∧
  (∀ (s : State) (g : Tag),
    let x := s.notices.slot
    let done : Slot → State := fun y => { s with
      notices := { s.notices with slot := { y with state := .done } }
      host := { s.host with latched := s.host.latched ||| 0x00020000#32 } }
    x.state = .sending (.tagged g) →
    s.report .host g .completed = done { x with result := .acked, reason := none } ∧
    (∀ r : RefuseReason, r = .busy ∨ r = .noticeFull →
      (x.busy < 15 → s.report .host g (.refused r) = { s with notices := { s.notices with
        slot := { x with busy := x.busy + 1, state := .sending (.backoff (100 * (x.busy + 1))) } } }) ∧
      (15 ≤ x.busy → s.report .host g (.refused r) =
        done { x with busy := x.busy + 1, result := .refused, reason := some r })) ∧
    (∀ r : RefuseReason, r ≠ .busy → r ≠ .noticeFull →
      s.report .host g (.refused r) = done { x with result := .refused, reason := some r }) ∧
    (x.attempts < 3 → s.report .host g .timeout = { s with notices := { s.notices with
      slot := { x with attempts := x.attempts + 1, state := .sending .waiting } } }) ∧
    (3 ≤ x.attempts → s.report .host g .timeout =
      done { x with attempts := x.attempts + 1, result := .timeout, reason := none }) ∧
    s.report .host g .peerLost = done { x with result := .peerLost, reason := none })

/-- FRAME_DISPATCH of a READ_DATA: landed where the checks of R53 pass; where one fails a data error, with which the frame leaves
the buffer, the entry is QUARANTINED and its owner has DATA_ERROR, and nothing is written; absorbed by an ABANDONED entry, stale without a match (R48, R50, R53, R54, R55, R163). -/
def Obligations.ReadDataIsChecked : Prop :=
  ∀ (s : State) (f : Frame) (rest : List Frame) (g : Tag) (last : Bool) (place : BitVec 6) (p : List Byte),
    s.host.resetLow = false → s.landingTag = none → s.rx.buffer = f :: rest → f.body = .readData g last place p →
    let e := s.entry g
    let offset := 4 * place.toNat
    let u : State := { s with rx := { s.rx with buffer := rest } }
    (Matches e f.src f.body → e.state = .live → ReadDataPasses e last offset p.length →
      exec .frameDispatch s = .next (State.settle
        (let v : State := s.setEntry g { e with landingMark := true }
         { v with port := { s.port with
            state := if s.port.state = .free then .requesting else s.port.state
            landing := some {
              dir := .write, mode := e.localMode, count := p.length / 4, data := wordsOfBytes p
              first := if e.localMode = .increment then e.localAddr + BitVec.ofNat 32 offset else e.localAddr } } }))) ∧
    (Matches e f.src f.body → e.state = .live → ¬ ReadDataPasses e last offset p.length →
      let t : State := State.settle ((u.setEntry g { e with
        state := .quarantined, sendingMark := false, landingMark := false, deadline := none
        quarantine := some (s.member.tResp.toNat * 16) }).report e.owner g .dataError)
      exec .frameDispatch s = .next t ∧ (t.entry g).state = .quarantined ∧
        (t.entry g).quarantine = some (s.member.tResp.toNat * 16) ∧ (t.entry g).deadline = none ∧
        (t.entry g).received = e.received ∧ t.ramWrites = s.ramWrites) ∧
    (Matches e f.src f.body → e.state = .abandoned → exec .frameDispatch s = .next (State.settle
      (if last then u.setEntry g { e with
          state := .free, sendingMark := false, landingMark := false, deadline := none, quarantine := none }
       else u))) ∧
    (¬ Matches e f.src f.body → exec .frameDispatch s = .next (State.settle { u with
      rx := { u.rx with stale := if s.rx.stale = 0xFFFF then 0xFFFF else s.rx.stale + 1 } }))

/-- FRAME_JUDGED on a transmission that fails a check of R157: counted, and nothing else; an own transmission, or none, is not
judged; a valid frame with the station's own number as source is CONFLICT with cause DUPLICATE while joined, and in OFFLINE and
CONFLICT changes nothing but the receive state where no other work is due (R115, R117, R153, R157, R158, R159, R168). -/
def Obligations.BadFramesAndDuplicates : Prop :=
  (∀ (claim : BitVec 7) (bytes : List Byte) (s : State), s.host.resetLow = false →
    (s.rx.state = .framing → s.rx.ownMark = false → judgeFrame claim bytes = none →
      exec (.frameJudged claim bytes) s = .next { s with rx := { s.rx with
        state := .skipping, inProgress := none
        badFrame := if s.rx.badFrame = 0xFFFF then 0xFFFF else s.rx.badFrame + 1 } }) ∧
    (s.rx.state ≠ .framing ∨ s.rx.ownMark = true → exec (.frameJudged claim bytes) s = .next s)) ∧
  (∀ (claim : BitVec 7) (bytes : List Byte) (f : Frame) (s : State), s.host.resetLow = false → s.rx.state = .framing →
    s.rx.ownMark = false → judgeFrame claim bytes = some f → f.src = s.member.number →
    (s.member.state = .listening ∨ s.member.state = .online ∨ s.member.state = .leaving →
      ∃ t : State, exec (.frameJudged claim bytes) s = .next t ∧ t.member.state = .conflict ∧
        t.member.cause = .duplicate ∧ Quiesced .conflict s t ∧ t.member.roster = s.member.roster) ∧
    (s.member.state = .offline ∨ s.member.state = .conflict →
      ∃ t : State, exec (.frameJudged claim bytes) s = .next t ∧ t.member.state = s.member.state ∧
        t.member.roster = s.member.roster ∧ t.rx.badFrame = s.rx.badFrame) ∧
    (s.member.state = .offline ∨ s.member.state = .conflict → NothingDue s →
      exec (.frameJudged claim bytes) s = .next { s with rx := { s.rx with state := .skipping, inProgress := none } }))

/-- A valid frame of another station updates the roster entry of its source by its kind, whatever its destination and the
station state, and no other entry; a LEAVE and a rejoin lose the peer's requests and purge it from the Inbound Service; the
frame is then offered to the Receive Buffer, appended where it is addressed here and the state admits it, and dropped with
DROPPED_FRAME where the buffer is full (R58, R84, R121 to R124, R126, R159 to R161). That a held answer takes no place which
the purge has freed is the model's choice (log entry 22). -/
def Obligations.ValidFramesUpdateTheRoster : Prop :=
  ∀ (claim : BitVec 7) (bytes : List Byte) (f : Frame) (s : State), s.host.resetLow = false → s.rx.state = .framing →
    s.rx.ownMark = false → judgeFrame claim bytes = some f → f.src ≠ s.member.number →
    ∃ t : State, exec (.frameJudged claim bytes) s = .next t ∧
      (∀ n : StationNo, n ≠ f.src → t.rosterEntry n = s.rosterEntry n) ∧
      (let e := s.rosterEntry f.src
       let there := e.presence.isPresent
       let heard : Bool → RosterEntry := fun leaving =>
         { presence := .present 0, leaving := leaving, changed := e.changed || !there || e.leaving != leaving }
       match f.body with
       | .leave => t.rosterEntry f.src =
          if there then { presence := .absent, leaving := false, changed := true } else e
       | .announce => t.rosterEntry f.src = { heard false with changed := true }
       | .hello .leaving => t.rosterEntry f.src = heard true
       | .hello .online => t.rosterEntry f.src = heard false
       | _ => t.rosterEntry f.src = if there then heard e.leaving else { heard false with changed := true }) ∧
      t.member.state = s.member.state ∧ t.member.cause = s.member.cause ∧
      (f.body = .leave ∨ f.body = .announce → s.isPresent f.src = true →
        RequestsLost f.src s t ∧ (s.rx.buffer = [] → InboundPurged f.src s t)) ∧
      (let v : State := { s with rx := { s.rx with state := .skipping, inProgress := none } }
       let w : State := v.rosterHears f.src f.body
       let here : Prop := (f.dest = 31 ∨ f.dest = w.member.number.setWidth 8) ∧
         (w.member.state = .online ∨ w.member.state = .leaving ∨ (w.member.state = .listening ∧ f.body.classValue = 2))
       w.member.state = s.member.state ∧ w.member.number = s.member.number ∧ t = (w.offerFrame f).settle ∧
       (here → w.rx.buffer.length < 4 → w.offerFrame f = { w with rx := { w.rx with buffer := w.rx.buffer ++ [f] } }) ∧
       (here → 4 ≤ w.rx.buffer.length → w.offerFrame f = { w with rx := { w.rx with
         dropped := if w.rx.dropped = 0xFFFF then 0xFFFF else w.rx.dropped + 1 } }) ∧
       (¬ here → w.offerFrame f = w))

/-- Judging inverts forming: the bytes and the claim value that are judged valid are those of a well-formed frame, and every such
frame is judged as itself (R139, R154 to R157). That a destination byte of 32 to 255 is well formed with a kind that is not
for ALL is the model's reading (log entry 9). -/
def Obligations.JudgingInvertsForming : Prop :=
  ∀ (claim : BitVec 7) (bytes : List Byte) (f : Frame),
    judgeFrame claim bytes = some f ↔
      Safety.Frame.WellFormed f ∧ bytes = f.bytes ∧ claim = claimValue f.body.classValue f.src

/-! ## The link (05, 06) -/

/-- FRAME_GAP, ROUND_GAP and START_BIT (R129, R136, R153). That a gap's event before its time changes nothing is the model's choice
(log entry 4). -/
def Obligations.GapsAndStartBits : Prop :=
  ∀ s : State, s.host.resetLow = false →
    (4 ≤ s.link.idle → s.rx.state = .skipping →
      exec .frameGap s = .next { s with rx := { s.rx with state := .idle, ownMark := false } }) ∧
    (s.link.idle < 4 ∨ s.rx.state ≠ .skipping → exec .frameGap s = .next s) ∧
    (16 ≤ s.link.idle → exec .roundGap s = .next { s with link := { s.link with spent := false } }) ∧
    (s.link.idle < 16 → exec .roundGap s = .next s) ∧
    (4 ≤ s.link.idle → s.rx.state = .idle → exec .startBit s = .next { s with
      rx := { s.rx with state := .framing, inProgress := some { claim := 0, bytes := [] } }
      link := { s.link with idle := 0 } }) ∧
    (s.link.idle < 4 ∨ s.rx.state ≠ .idle → exec .startBit s = .next { s with link := { s.link with idle := 0 } })

/-- CLAIM_START, CLAIM_LOST and CLAIM_WON with the sending mark of a QUEUED entry, the Response Queue's head, the Data Slot's
frame or the control list's head (R138 to R141, R158). That CLAIM_LOST and CLAIM_WON without a claim, and CLAIM_START where no
claim may start, change nothing is the model's choice (log entry 4). -/
def Obligations.ClaimsStartAreLostAndWon : Prop :=
  ∀ (f : FrameRef) (s : State), s.host.resetLow = false →
    (s.link.unit = .waiting → s.rx.state = .idle → 4 ≤ s.link.idle → s.candidate = some f →
      exec .claimStart s = .next { s with
        link := { s.link with unit := .claiming f, idle := 0 }
        rx := { s.rx with state := .framing, inProgress := some { claim := 0, bytes := [] } } }) ∧
    (s.link.unit ≠ .waiting ∨ s.rx.state ≠ .idle ∨ s.link.idle < 4 ∨ s.candidate = none →
      exec .claimStart s = .next s) ∧
    (s.link.unit = .claiming f →
      exec .claimLost s = .next { s with link := { s.link with unit := .waiting, idle := 0 } }) ∧
    ((∀ g : FrameRef, s.link.unit ≠ .claiming g) → exec .claimLost s = .next s ∧ exec .claimWon s = .next s) ∧
    (∀ g : Tag, f = .entry g → s.link.unit = .claiming f → (s.entry g).state = .queued →
      exec .claimWon s = .next
        (let u : State := s.setEntry g { s.entry g with sendingMark := true }
         { u with
           link := { s.link with unit := .sending f, idle := 0 }
           rx := { s.rx with
            ownMark := true, inProgress := s.rx.inProgress.map fun p => { p with claim := s.claimOf f } } })) ∧
    (∀ (c : ControlFrame) (rest : List ControlFrame), f = .control → s.link.unit = .claiming f →
      s.member.control = c :: rest →
      exec .claimWon s = .next { s with
        member := { s.member with control := { c with sending := true } :: rest }
        link := { s.link with unit := .sending f, idle := 0 }
        rx := { s.rx with
          ownMark := true, inProgress := s.rx.inProgress.map fun p => { p with claim := s.claimOf f } } }) ∧
    (∀ (r : Response) (rest : List Response), f = .response → s.link.unit = .claiming f →
      s.inbound.responses = r :: rest →
      exec .claimWon s = .next { s with
        inbound := { s.inbound with responses := { r with sending := true } :: rest }
        link := { s.link with unit := .sending f, idle := 0 }
        rx := { s.rx with
          ownMark := true, inProgress := s.rx.inProgress.map fun p => { p with claim := s.claimOf f } } }) ∧
    (∀ d : DataFrame, f = .dataSlot → s.link.unit = .claiming f → s.inbound.dataSlot = some d →
      exec .claimWon s = .next { s with
        inbound := { s.inbound with dataSlot := some { d with sending := true } }
        link := { s.link with unit := .sending f, idle := 0 }
        rx := { s.rx with
          ownMark := true, inProgress := s.rx.inProgress.map fun p => { p with claim := s.claimOf f } } })

/-- The selector's order: by class, then within NOTICE the one allocated earliest, then HIGH before LOW and round the channels
from the pointer; no notice and no request while the spent flag is set (R106, R131 to R133, R135, R148). -/
def Obligations.SelectorOrder : Prop :=
  ∀ s : State,
    (s.member.state = .offline ∨ s.member.state = .conflict → s.candidate = none) ∧
    (s.member.state = .listening → s.candidate = s.controlCandidate) ∧
    (s.member.state = .online ∨ s.member.state = .leaving →
      (∀ (r : Response) (rest : List Response), s.inbound.responses = r :: rest → r.sending = false →
        s.candidate = some .response) ∧
      (∀ d : DataFrame, s.inbound.responses = [] → s.inbound.dataSlot = some d → d.sending = false →
        s.candidate = some .dataSlot) ∧
      (∀ (c : ControlFrame) (rest : List ControlFrame), s.inbound.responses = [] → s.inbound.dataSlot = none →
        s.member.control = c :: rest → c.sending = false → s.candidate = some .control) ∧
      (s.inbound.responses = [] → s.inbound.dataSlot = none → s.member.control = [] →
        (s.link.spent = true → s.candidate = none) ∧
        (s.link.spent = false →
          (∀ (before after : List Tag) (g : Tag), s.tracker.queued = before ++ g :: after →
            (s.entry g).kind = .notice → s.entryReady g = true →
            (∀ h ∈ before, (s.entry h).kind = .notice → s.entryReady h = false) → s.candidate = some (.entry g)) ∧
          ((∀ g ∈ s.tracker.queued, (s.entry g).kind = .notice → s.entryReady g = false) →
            (∀ g : Tag, s.candidate = some (.entry g) →
              ∃ c : ChannelNo, (s.entry g).owner = .channel c ∧ s.entryReady g = true ∧ g ∈ s.tracker.queued ∧
                (∀ d : ChannelNo, s.requestOf d ≠ none →
                  (s.channel d).desc.priority = .high → (s.channel c).desc.priority = .high) ∧
                (∀ d : ChannelNo, s.requestOf d ≠ none → (s.channel d).desc.priority = (s.channel c).desc.priority →
                  let p := if (s.channel c).desc.priority = .high then s.link.highPtr else s.link.lowPtr
                  (c.val + 5 - p.val) % 6 ≤ (d.val + 5 - p.val) % 6)) ∧
            (s.candidate = none ↔ ∀ d : ChannelNo, s.requestOf d = none)))))

/-- SEND_CLEAN_END of a request or a notice: LIVE with its deadline, spent flag and level pointer, garble count 0, heartbeat
restarted and a waiting HELLO of its timer withdrawn (R41, R107, R134, R135, R144). -/
def Obligations.RequestSentCleanly : Prop :=
  ∀ (g : Tag) (s : State), s.host.resetLow = false → s.link.unit = .sending (.entry g) → (s.entry g).state = .queued →
    let e := s.entry g
    let v : State := s.setEntry g { e with state := .live, sendingMark := false, deadline := some (s.member.tResp.toNat * 16) }
    let sent : State := { v with
      tracker := { v.tracker with queued := s.tracker.queued.filter (· ≠ g) }
      rx := if s.rx.state = .framing then { s.rx with state := .skipping, inProgress := none } else s.rx
      member := { s.member with
        heartbeat := if s.member.heartbeat = .stopped then .stopped else .running 0
        control := s.member.control.filter fun f => f.sending || !f.kind.byTimer } }
    let l : LinkUnit := { s.link with unit := .waiting, idle := 0, garble := 0, spent := true }
    (e.kind = .notice → exec .sendCleanEnd s = .next (State.settle { sent with link := l })) ∧
    (∀ c : ChannelNo, e.owner = .channel c → e.kind ≠ .notice →
      exec .sendCleanEnd s = .next (State.settle { sent with
        channels := if e.kind = .write then (s.setChannel c { s.channel c with payload := none }).channels else s.channels
        link := if (s.channel c).desc.priority = .high then { l with highPtr := c } else { l with lowPtr := c } }))

/-- SEND_CLEAN_END of an answer, a chunk or a HELLO (R78, R79, R81, R82, R106, R144). That a held answer takes the place an answer
leaves only by its own event is the model's choice (log entry 22). -/
def Obligations.AnswerSentCleanly : Prop :=
  ∀ s : State, s.host.resetLow = false →
    let sent : State := { s with
      link := { s.link with unit := .waiting, idle := 0, garble := 0 }
      rx := if s.rx.state = .framing then { s.rx with state := .skipping, inProgress := none } else s.rx
      member := { s.member with
        heartbeat := if s.member.heartbeat = .stopped then .stopped else .running 0
        control := s.member.control.filter fun f => f.sending || !f.kind.byTimer } }
    (∀ (r : Response) (rest : List Response), s.link.unit = .sending .response → s.inbound.responses = r :: rest →
      exec .sendCleanEnd s = .next (State.settle { sent with inbound := { s.inbound with responses := rest } })) ∧
    (∀ (next : Nat) (r : InRequest) (rest : List InRequest), s.link.unit = .sending .dataSlot →
      s.inbound.engine = .reading next → s.inbound.queue = r :: rest →
      (next < r.length → exec .sendCleanEnd s = .next (State.settle { sent with
        inbound := { s.inbound with dataSlot := none }
        port := { s.port with
          state := if s.port.state = .free then .requesting else s.port.state
          service := some { dir := .read, mode := .increment, first := r.localAddr + BitVec.ofNat 32 next
                            count := min 64 (r.length - next) / 4 } } })) ∧
      (r.length ≤ next → exec .sendCleanEnd s = .next (State.settle { sent with
        inbound := { s.inbound with dataSlot := none, queue := rest, engine := .idle } }))) ∧
    (∀ (st : HelloState) (b : Bool) (rest : List ControlFrame), s.link.unit = .sending .control →
      s.member.control = { kind := .hello st b, sending := true } :: rest →
      exec .sendCleanEnd s = .next (State.settle { sent with member := { sent.member with
        control := rest.filter fun f => f.sending || !f.kind.byTimer } }))

/-- The clean end of the ANNOUNCE is the entry to ONLINE, that of the LEAVE the entry to OFFLINE (R31, R62, R110, R114, R148). -/
def Obligations.CleanEndsChangeTheStation : Prop :=
  ∀ s : State, s.host.resetLow = false → s.link.unit = .sending .control →
    (s.member.state = .listening → s.member.control = [{ kind := .announce, sending := true }] →
      ∃ t : State, exec .sendCleanEnd s = .next t ∧ t.member.state = .online ∧ t.member.cause = .none ∧
        t.flag .stationState = true ∧ t.member.listen = none ∧ t.member.heartbeat = .running 0 ∧ t.member.control = [] ∧
        t.link.garble = 0 ∧ t.member.roster = s.member.roster ∧ t.member.number = s.member.number ∧
        t.member.tResp = s.member.tResp ∧ t.member.tHb = s.member.tHb ∧ t.inbound.windows = s.inbound.windows) ∧
    (s.member.state = .leaving → s.member.control = [{ kind := .leave, sending := true }] →
      ∃ t : State, exec .sendCleanEnd s = .next t ∧ t.member.state = .offline ∧ t.member.cause = .none ∧
        Quiesced .left s t ∧ t.link.garble = 0 ∧ t.member.roster = s.member.roster)

/-- SEND_GARBLED, for each kind of frame: it stays with its mark clear and no deadline, but for a HELLO carrying ONLINE in LEAVING,
which is withdrawn; a request or a notice spends the round, the count rises; the fourth in a row is CONFLICT with cause GARBLED
(R41, R107, R116, R134, R135, R142, R143, R145). A claim whose readback differs is garbled in the same way, and its transmission
stays one to be judged (R152, R158). That such a claim spends the round is the model's reading (log entry 23); that SEND_GARBLED
with neither, and SEND_CLEAN_END without a send, change nothing, and that the receiver skips a garbled frame of the station's own
from this step on, are its choices (log entries 4 and 25). -/
def Obligations.GarbledSends : Prop :=
  (∀ (f : FrameRef) (s : State), s.host.resetLow = false → s.link.unit = .sending f ∨ s.link.unit = .claiming f →
    let l : LinkUnit := { s.link with unit := .waiting, idle := 0, garble := s.link.garble + 1 }
    let rx : Receiver := if s.link.unit = .sending f ∧ s.rx.state = .framing
      then { s.rx with state := .skipping, inProgress := none } else s.rx
    (s.link.garble < 3 →
      (∀ (g : Tag) (c : ChannelNo), f = .entry g → (s.entry g).state = .queued → (s.entry g).owner = .channel c →
        (s.entry g).kind ≠ .notice → exec .sendGarbled s = .next
          (let v : State := s.setEntry g { s.entry g with sendingMark := false }
           { v with
             rx := rx
             link := if (s.channel c).desc.priority = .high then { l with spent := true, highPtr := c }
                     else { l with spent := true, lowPtr := c } })) ∧
      (∀ g : Tag, f = .entry g → (s.entry g).state = .queued → (s.entry g).kind = .notice → exec .sendGarbled s = .next
        (let v : State := s.setEntry g { s.entry g with sendingMark := false }
         { v with rx := rx, link := { l with spent := true } })) ∧
      (∀ (r : Response) (rest : List Response), f = .response → s.inbound.responses = r :: rest →
        exec .sendGarbled s = .next { s with
          rx := rx, link := l, inbound := { s.inbound with responses := { r with sending := false } :: rest } }) ∧
      (∀ d : DataFrame, f = .dataSlot → s.inbound.dataSlot = some d → exec .sendGarbled s = .next { s with
        rx := rx, link := l, inbound := { s.inbound with dataSlot := some { d with sending := false } } }) ∧
      (∀ (x : ControlFrame) (rest : List ControlFrame), f = .control → s.member.control = x :: rest →
        ((∃ b : Bool, x.kind = .hello .online b) → s.member.state = .leaving → exec .sendGarbled s = .next { s with
          rx := rx, link := l, member := { s.member with control := rest } }) ∧
        ((∀ b : Bool, x.kind ≠ .hello .online b) ∨ s.member.state ≠ .leaving → exec .sendGarbled s = .next { s with
          rx := rx, link := l, member := { s.member with control := { x with sending := false } :: rest } }))) ∧
    (3 ≤ s.link.garble → ∃ t : State, exec .sendGarbled s = .next t ∧ t.member.state = .conflict ∧
      t.member.cause = .garbled ∧ Quiesced .conflict s t ∧ t.link.garble = s.link.garble + 1 ∧
      t.member.roster = s.member.roster)) ∧
  (∀ s : State, s.host.resetLow = false →
    (s.link.unit = .waiting → exec .sendGarbled s = .next s) ∧
    ((∀ f : FrameRef, s.link.unit ≠ .sending f) → exec .sendCleanEnd s = .next s))

/-! ## Timers and internal steps -/

/-- DEADLINE_EXPIRY of a LIVE or ABANDONED entry quarantines it for T_resp × 16 µs and ends a landing of it, whose frame leaves the
buffer uncounted; the owner of a LIVE one has TIMEOUT, that of an ABANDONED one no result (R44, R46, R57). That the event has no
effect while the deadline runs, and without one, is the model's choice (log entries 4 and 8). -/
def Obligations.DeadlineQuarantines : Prop :=
  ∀ (g : Tag) (s : State), s.host.resetLow = false →
    let e := s.entry g
    let q : Entry := { e with
      state := .quarantined, sendingMark := false, landingMark := false, deadline := none
      quarantine := some (s.member.tResp.toNat * 16) }
    let v : State := s.setEntry g q
    let v : State := if e.landingMark = true then { v with
        rx := { s.rx with buffer := s.rx.buffer.tail }
        port := { s.port with
          landing := none
          state := match s.port.state with
            | .burst b => .burst (if b.requester = .landing then { b with cancelled := true } else b)
            | .free => .free
            | .requesting => .requesting } }
      else v
    (e.state = .live → e.deadline = some 0 →
      exec (.deadlineExpiry g) s = .next (v.report e.owner g .timeout).settle) ∧
    (e.state = .abandoned → e.deadline = some 0 → exec (.deadlineExpiry g) s = .next v.settle) ∧
    (e.state = .live ∨ e.state = .abandoned → e.deadline = some 0 →
      ∃ t : State, exec (.deadlineExpiry g) s = .next t ∧ t.entry g = q ∧ SameConfiguration s t) ∧
    (e.deadline ≠ some 0 → exec (.deadlineExpiry g) s = .next s)

/-- QUARANTINE_EXPIRY and the three backoff expiries give back an entry, a record or a notice; LISTEN_TIMER_EXPIRY and
HEARTBEAT_TIMER_EXPIRY append their control frames (R19, R25, R46, R99, R107, R109). That the last two change nothing before
their time is the model's choice (log entries 4 and 8). -/
def Obligations.ExpiriesReturnWork : Prop :=
  ∀ s : State, s.host.resetLow = false →
    (∀ g : Tag, (s.entry g).state = .quarantined → (s.entry g).quarantine = some 0 →
      exec (.quarantineExpiry g) s = .next (s.setEntry g { s.entry g with
        state := .free, sendingMark := false, landingMark := false, deadline := none, quarantine := none }).settle) ∧
    (∀ (c : ChannelNo) (r : Fin 4) (x : SegRecord), (s.channel c).records[r.val]? = some x → x.state = .backoff 0 →
      exec (.segmentBackoffExpiry c r) s = .next (s.setChannel c { s.channel c with
        records := (s.channel c).records.set r.val { x with state := .pending } }).settle) ∧
    (∀ (c : ChannelNo) (x : NoticeRecord), (s.channel c).notice = some x → x.phase = .backoff 0 →
      exec (.endNoticeBackoffExpiry c) s = .next (s.setChannel c { s.channel c with
        notice := some { x with phase := .waiting } }).settle) ∧
    (s.notices.slot.state = .sending (.backoff 0) →
      exec .hostNoticeBackoffExpiry s = .next (State.settle { s with notices := { s.notices with
        slot := { s.notices.slot with state := .sending .waiting } } })) ∧
    (s.member.state = .listening → s.member.listen = some 0 →
      exec .listenTimerExpiry s = .next { s with member := { s.member with
        listen := none, control := s.member.control ++ [{ kind := .announce }] } }) ∧
    (s.member.state ≠ .listening ∨ s.member.listen ≠ some 0 → exec .listenTimerExpiry s = .next s) ∧
    (∀ us : Micros, s.member.heartbeat = .running us → s.member.tHb.toNat * 1000 ≤ us →
      s.member.state = .online ∨ s.member.state = .leaving →
      (s.member.control = [] → exec .heartbeatTimerExpiry s = .next { s with member := { s.member with
        heartbeat := .expired
        control := [{ kind := .hello (if s.member.state = .online then .online else .leaving) true }] } }) ∧
      (∀ f ∈ s.member.control, f.kind.holdsBack = true →
        exec .heartbeatTimerExpiry s = .next { s with member := { s.member with heartbeat := .expired } })) ∧
    (∀ us : Micros, s.member.heartbeat = .running us → us < s.member.tHb.toNat * 1000 →
      exec .heartbeatTimerExpiry s = .next s)

/-- DRAIN_END where both blocks are quiet, and ENGINE_ANSWER_PLACED where the Response Queue has room (R80, R112). That the two have
no effect as commands where they are not due is the model's choice (log entries 4, 5 and 22). -/
def Obligations.DrainEndAndHeldAnswer : Prop :=
  ∀ s : State, s.host.resetLow = false →
    (s.member.state = .leaving → s.member.drain ≠ none → s.trackerQuiet = true → s.inbound.queue = [] →
      s.inbound.responses = [] → s.inbound.dataSlot = none →
      exec .drainEnd s = .next { s with member := { s.member with
        drain := none, control := s.member.control ++ [{ kind := .leave }] } }) ∧
    (s.member.state ≠ .leaving ∨ s.member.drain = none ∨ s.trackerQuiet = false ∨ s.inboundQuiet = false →
      exec .drainEnd s = .next s) ∧
    (∀ a : Response, s.inbound.engine = .answering a →
      (s.inbound.responses.length < 8 → exec .engineAnswerPlaced s = .next (State.settle { s with inbound := { s.inbound with
        responses := s.inbound.responses ++ [a], queue := s.inbound.queue.tail, engine := .idle } })) ∧
      (8 ≤ s.inbound.responses.length → exec .engineAnswerPlaced s = .next s)) ∧
    ((∀ a : Response, s.inbound.engine ≠ .answering a) → exec .engineAnswerPlaced s = .next s)

/-- DRAIN_TIMER_EXPIRY: the drain ends by force with its LEAVE; a channel that owns a QUEUED or LIVE entry ends LEFT, keeps its
front and releases its entries, a LIVE one ABANDONED with its deadline; a SENDING Host Notice Slot ends PEER_LOST, any other
stays; the Inbound Service is IDLE with no queued request and no unsent answer, where only answers to frames that wait in the
Receive Buffer may follow; and the Notice Queue stays (R30, R85, R90, R101, R113). -/
def Obligations.DrainLimitEndsTheDrain : Prop :=
  ∀ s : State, s.host.resetLow = false → s.member.state = .leaving → s.member.drain = some 0 →
    ∃ t : State, exec .drainTimerExpiry s = .next t ∧ t.member.state = .leaving ∧ t.member.drain = none ∧
      t.member.control = s.member.control ++ [{ kind := .leave }] ∧
      (∀ (c : ChannelNo) (g : Tag), (s.entry g).owner = .channel c →
        (s.entry g).state = .queued ∨ (s.entry g).state = .live →
        (t.channel c).state = .off ∧ (t.channel c).code = .left ∧ (t.channel c).front = (s.channel c).front ∧
        ((s.channel c).desc.errIrq = true → t.flag (.chErr c) = true) ∧
        (∀ h : Tag, (t.entry h).owner = .channel c → (t.entry h).state ≠ .queued ∧ (t.entry h).state ≠ .live) ∧
        ((s.entry g).state = .live → s.rx.buffer = [] →
          t.entry g = { s.entry g with state := .abandoned, landingMark := false })) ∧
      (match s.notices.slot.state with
        | .sending _ => t.notices.slot = { s.notices.slot with state := .done, result := .peerLost, reason := none } ∧
          t.flag .hostNoticeDone = true
        | .idle | .done => t.notices.slot = s.notices.slot) ∧
      t.inbound.queue = [] ∧ t.inbound.dataSlot = s.inbound.dataSlot.filter (·.sending) ∧ t.inbound.engine = .idle ∧
      (s.rx.buffer = [] → t.inbound.responses = s.inbound.responses.filter (·.sending)) ∧
      (∃ more : List Response, t.inbound.responses = s.inbound.responses.filter (·.sending) ++ more) ∧
      t.notices.queue = s.notices.queue ∧ t.notices.seq = s.notices.seq ∧ t.member.roster = s.member.roster

/-- SILENCE_TIMER_EXPIRY at 3 × T_hb: the entry is ABSENT, no entry of the tracker in QUEUED, LIVE or ABANDONED names the peer,
their owners have PEER_LOST, and the Inbound Service holds nothing of the peer (R58, R59, R84, R105, R125, R126); the tracker's
purge entry by entry (R58). That the event has no effect before its time, or with T_hb 0, and that a held answer takes no place
which the purge has freed, are the model's choices (log entries 4, 8 and 22). -/
def Obligations.SilenceLosesThePeer : Prop :=
  ∀ (n : Fin 31) (us : Micros) (s : State), s.host.resetLow = false →
    let p : StationNo := BitVec.ofNat 5 n.val
    (s.rosterEntry p).presence = .present us →
    (s.member.tHb ≠ 0 → 3 * (s.member.tHb.toNat * 1000) ≤ us →
      ∃ t : State, exec (.silenceTimerExpiry n) s = .next t ∧
        t.rosterEntry p = { presence := .absent, leaving := false, changed := true } ∧
        (∀ m : StationNo, m ≠ p → t.rosterEntry m = s.rosterEntry m) ∧
        (∀ g : Tag, (t.entry g).peer = p → ¬ InFlight (t.entry g)) ∧
        RequestsLost p s t ∧ (s.rx.buffer = [] → InboundPurged p s t) ∧
        t.member.state = s.member.state ∧ t.member.number = s.member.number ∧ t.ramWrites = s.ramWrites) ∧
    (∀ g : Tag, (s.entry g).peer = p → (s.purgeTracker p).entry g =
      match (s.entry g).state with
      | .queued => { s.entry g with
          state := .free, sendingMark := false, landingMark := false, deadline := none, quarantine := none }
      | .live | .abandoned => { s.entry g with
          state := .quarantined, sendingMark := false, landingMark := false, deadline := none
          quarantine := some (s.member.tResp.toNat * 16) }
      | .free | .quarantined => s.entry g) ∧
    (s.member.tHb = 0 ∨ us < 3 * (s.member.tHb.toNat * 1000) → exec (.silenceTimerExpiry n) s = .next s)

/-- What a channel does with each result of a segment at any place of its window: a failure within its limits changes that record
alone; a completion behind a gap leaves its record DONE and the front where it is; one at the front advances it over the run
of DONE records that follows, and at the last byte ends the transfer, NORMAL or by way of its end notice; every other result
ends the channel, which releases its entries (R17 to R24, R26, R27, R33); and what a NOTIFYING channel does with the results of
its end notice (R25). That an end which no refusal caused leaves the refuse reason none where no rule says so is the model's
reading (log entry 11); the current remote address at 1000000H is left open (log entry 21). -/
def Obligations.SegmentOutcomes : Prop :=
  (∀ (c : ChannelNo) (g : Tag) (r : SegRecord) (before after : List SegRecord) (s : State),
    let ch := s.channel c
    let d := ch.desc
    let total := d.length.toNat
    let becomes : SegRecord → State := fun x => s.setChannel c { ch with records := before ++ x :: after }
    let ends : Result → TermCode → Option RefuseReason → Prop := fun res code reason =>
      let t : State := s.report (.channel c) g res
      t.channel c = { ch with
        state := .off, code := code, reason := reason, latch := false, pause := false, waiting := false
        records := [], notice := none, payload := none } ∧
      (∀ e : ChannelNo, e ≠ c → t.channel e = s.channel e) ∧ (d.errIrq = true → t.flag (.chErr c) = true) ∧
      ∀ h : Tag, (t.entry h).owner = .channel c → (t.entry h).state ≠ .queued ∧ (t.entry h).state ≠ .live
    let moved : Nat → BitVec 24 → List SegRecord → Channel := fun front remote l => { ch with
      records := l, front := front, remaining := total - front, curRemote := remote
      curLocal := if d.localMode = .increment then d.localAddr + BitVec.ofNat 32 front else d.localAddr }
    let remoteAt : Nat → BitVec 24 := fun front =>
      if d.remoteMode = .increment then d.remote + BitVec.ofNat 24 front else d.remote
    ch.notice = none → ch.records = before ++ r :: after → r.state = .outstanding g →
    (∀ x ∈ before ++ after, x.state ≠ .outstanding g) →
    (r.attempts < d.retryLimit.toNat → ∀ res : Result, res = .timeout ∨ res = .dataError →
      s.report (.channel c) g res = becomes { r with state := .pending, attempts := r.attempts + 1 }) ∧
    (d.retryLimit.toNat ≤ r.attempts → ends .timeout .timeout none ∧ ends .dataError .dataError none) ∧
    (r.busy < 15 → s.report (.channel c) g (.refused .busy) =
      becomes { r with state := .backoff (100 * (r.busy + 1)), busy := r.busy + 1 }) ∧
    (15 ≤ r.busy → ends (.refused .busy) .refused (some .busy)) ∧
    (∀ reason : RefuseReason, reason ≠ .busy → ends (.refused reason) .refused (some reason)) ∧
    ends .peerLost .peerLost none ∧ ends .localFault .localFault none ∧
    (∀ (x : SegRecord) (more : List SegRecord), before = x :: more → x.state ≠ .done → ch.front < total →
      s.report (.channel c) g .completed = becomes { r with state := .done }) ∧
    (∀ (run rest : List SegRecord) (front : Nat), before = [] → after = run ++ rest → r.offset = ch.front → 0 < r.length →
      (∀ x ∈ run, x.state = .done) → Tiles (ch.front + r.length) front run →
      (∀ x : SegRecord, rest.head? = some x → x.state ≠ .done) →
      (front < total → (d.remoteMode = .increment → d.remote.toNat + front < 0x1000000) →
        s.report (.channel c) g .completed = s.setChannel c (moved front (remoteAt front) rest)) ∧
      (front = total → rest = [] →
        let t : State := s.report (.channel c) g .completed
        ∃ remote : BitVec 24,
          ((d.remoteMode = .increment → d.remote.toNat + total < 0x1000000) → remote = remoteAt total) ∧
          (d.endNotice = true → t = s.setChannel c { moved total remote [] with
            state := .notifying, waiting := false, notice := some { phase := .waiting, attempts := 0, busy := 0 } }) ∧
          (d.endNotice = false →
            t = { s.setChannel c (t.channel c) with host := { s.host with latched := t.host.latched } } ∧
            (d.endIrq = true → t.flag (.chEnd c) = true) ∧ (d.endIrq = false → t.host = s.host) ∧
            (d.reload = false → t.channel c = { moved total remote [] with
              state := .off, code := .normal, reason := none, latch := false, pause := false, waiting := false
              payload := none }) ∧
            (d.reload = true → t.channel c = { ch with
              state := .armed, code := .normal, reason := none, waiting := false, front := 0, cutOffset := 0
              remaining := total, curRemote := d.remote, curLocal := d.localAddr, records := [], payload := none }))))) ∧
  (∀ (c : ChannelNo) (g : Tag) (n : NoticeRecord) (s : State),
    let ch := s.channel c
    let failed : Option RefuseReason → Channel := fun reason => { ch with
      state := .off, code := .noticeFailed, reason := reason, latch := false, pause := false, waiting := false
      records := [], notice := none, payload := none }
    ch.notice = some n → n.phase = .tagged g →
    (let t : State := s.report (.channel c) g .completed
     (t.channel c).code = .normal ∧ (t.channel c).reason = none ∧ (t.channel c).notice = none ∧
     (ch.desc.reload = false → (t.channel c).state = .off) ∧
     (ch.desc.reload = true → (t.channel c).state = .armed ∧ (t.channel c).front = 0 ∧
       (t.channel c).remaining = ch.desc.length.toNat ∧ (t.channel c).pause = ch.pause) ∧
     (ch.desc.endIrq = true → t.flag (.chEnd c) = true)) ∧
    (n.attempts < ch.desc.retryLimit.toNat → s.report (.channel c) g .timeout =
      s.setChannel c { ch with notice := some { n with phase := .waiting, attempts := n.attempts + 1 } }) ∧
    (ch.desc.retryLimit.toNat ≤ n.attempts → (s.report (.channel c) g .timeout).channel c = failed none) ∧
    (∀ reason : RefuseReason,
      ((reason = .busy ∨ reason = .noticeFull) → n.busy < 15 → s.report (.channel c) g (.refused reason) =
        s.setChannel c { ch with
          notice := some { n with phase := .backoff (100 * (n.busy + 1)), busy := n.busy + 1 } }) ∧
      ((reason ≠ .busy ∧ reason ≠ .noticeFull) ∨ 15 ≤ n.busy →
        (s.report (.channel c) g (.refused reason)).channel c = failed (some reason))) ∧
    ((s.report (.channel c) g .peerLost).channel c = failed none) ∧
    (ch.desc.errIrq = true → (s.report (.channel c) g .peerLost).flag (.chErr c) = true))

/-! ## The Local Memory Port (08) -/

/-- BUS_GRANT: a landing before a service request before the first fetch, or the bus released. WORD_TRANSFER_END: a written
word is in local RAM at its address, a read takes the word, and the next word of the burst is driven; a word left by a reset
completes (R171, R172, R174, R175, R182). That BUS_GRANT where the port does not ask, and WORD_TRANSFER_END at the burst's last
word, change nothing is the model's choice (log entry 4); so is the record of written words (log entry 6). -/
def Obligations.BusGrantsAndWords : Prop :=
  (∀ s : State, s.host.resetLow = false →
    (s.port.state = .requesting → s.port.tail = none →
      (∀ r : BurstRequest, s.port.landing = some r → exec .busGrant s = .next { s with port := { s.port with
        landing := none, state := .burst { requester := .landing, req := r } } }) ∧
      (∀ r : BurstRequest, s.port.landing = none → s.port.service = some r → exec .busGrant s = .next { s with
        port := { s.port with service := none, state := .burst { requester := .service, req := r } } }) ∧
      (∀ (c : ChannelNo) (r : BurstRequest) (rest : List (ChannelNo × BurstRequest)), s.port.landing = none →
        s.port.service = none → s.port.fetches = (c, r) :: rest → exec .busGrant s = .next { s with
          port := { s.port with fetches := rest, state := .burst { requester := .fetch c, req := r } } }) ∧
      (s.port.landing = none → s.port.service = none → s.port.fetches = [] →
        exec .busGrant s = .next { s with port := { s.port with state := .free } })) ∧
    (s.port.state ≠ .requesting → exec .busGrant s = .next s)) ∧
  (∀ (w : Word) (b : Burst) (s : State),
    (s.port.state = .burst b → b.done + 1 < b.req.count →
      let a := if b.req.mode = .increment then b.req.first + BitVec.ofNat 32 (4 * b.done) else b.req.first
      (b.req.dir = .write → exec (.wordTransferEnd w) s = .next { s with
        port := { s.port with state := .burst { b with done := b.done + 1 } }
        ramWrites := s.ramWrites ++ [(a, b.req.data.getD b.done 0)] }) ∧
      (b.req.dir = .read → exec (.wordTransferEnd w) s = .next { s with
        port := { s.port with state := .burst { b with done := b.done + 1, got := b.got ++ [w] } } })) ∧
    (s.port.state = .burst b → b.req.count ≤ b.done + 1 → exec (.wordTransferEnd w) s = .next s) ∧
    (∀ x : WordTransfer, s.port.state = .free → s.port.tail = some x →
      exec (.wordTransferEnd w) s = .next { s with
        port := { s.port with tail := none }
        ramWrites := if x.dir = .write then s.ramWrites ++ [(x.addr, x.data)] else s.ramWrites }))

/-- BURST_END: the last word completes, the bus is released and the requester takes the end, a cancelled burst none: a fetch has
its payload, a served write its ACK, placed or held in ANSWERING while the Response Queue is full, a served chunk is in the Data
Slot, a landing is counted or completes its request (R16, R56, R77 to R79, R171, R177, R178). That BURST_END at a word that
is not the last changes nothing is the model's choice (log entry 4); so are the record of written words (log entry 6) and that the bus is released
before the other work of the step (log entry 24). -/
def Obligations.BurstsEnd : Prop :=
  ∀ (w : Word) (b : Burst) (s : State), s.port.state = .burst b →
    let a := if b.req.mode = .increment then b.req.first + BitVec.ofNat 32 (4 * b.done) else b.req.first
    let u : State := { s with
      port := { s.port with state :=
        if s.port.landing = none ∧ s.port.service = none ∧ s.port.fetches = [] then .free else .requesting }
      ramWrites := if b.req.dir = .write then s.ramWrites ++ [(a, b.req.data.getD b.done 0)] else s.ramWrites }
    (b.done + 1 ≠ b.req.count → exec (.burstEnd w) s = .next s) ∧
    (b.done + 1 = b.req.count →
      (b.cancelled = true → exec (.burstEnd w) s = .next u.settle) ∧
      (∀ c : ChannelNo, b.cancelled = false → b.requester = .fetch c → b.req.dir = .read →
        exec (.burstEnd w) s = .next (u.setChannel c { s.channel c with
          payload := some (bytesOfWords (b.got ++ [w])) }).settle) ∧
      (∀ (r : InRequest) (rest : List InRequest), b.cancelled = false → b.requester = .service →
        s.inbound.engine = .writing → s.inbound.queue = r :: rest → s.inbound.responses.length < 8 →
        exec (.burstEnd w) s = .next (State.settle { u with inbound := { s.inbound with
          queue := rest, engine := .idle
          responses := s.inbound.responses ++ [{ dest := r.src, tag := r.tag, answer := .ack }] } })) ∧
      (∀ (r : InRequest) (rest : List InRequest), b.cancelled = false → b.requester = .service →
        s.inbound.engine = .writing → s.inbound.queue = r :: rest → 8 ≤ s.inbound.responses.length →
        exec (.burstEnd w) s = .next (State.settle { u with inbound := { s.inbound with
          engine := .answering { dest := r.src, tag := r.tag, answer := .ack } } })) ∧
      (∀ (offset : Nat) (r : InRequest) (rest : List InRequest), b.cancelled = false → b.requester = .service →
        b.req.dir = .read → s.inbound.engine = .reading offset → s.inbound.queue = r :: rest →
        exec (.burstEnd w) s = .next (State.settle { u with inbound := { s.inbound with
          engine := .reading (offset + 64)
          dataSlot := some {
            dest := r.src, tag := r.tag, offset := offset, last := decide (r.length ≤ offset + 64)
            payload := bytesOfWords (b.got ++ [w]) } } })) ∧
      (∀ (g : Tag) (f : Frame) (rest : List Frame) (h : Tag) (last : Bool) (place : BitVec 6) (p : List Byte),
        b.cancelled = false → b.requester = .landing → s.landingTag = some g → s.rx.buffer = f :: rest →
        f.body = .readData h last place p →
        let e := s.entry g
        let v : State := { u with rx := { s.rx with buffer := rest } }
        (last = false → exec (.burstEnd w) s = .next (v.setEntry g { e with
          landingMark := false, received := e.received + p.length }).settle) ∧
        (last = true → exec (.burstEnd w) s = .next (((v.setEntry g { e with
          state := .free, sendingMark := false, landingMark := false, deadline := none, quarantine := none
          received := e.received + p.length }).report e.owner g .completed).settle))))

/-- BUS_ERROR: the burst ends at its word, which is not written; a fetch ends its channel LOCAL_FAULT, a service burst is
answered LOCAL_ERROR, placed or held in ANSWERING while the Response Queue is full. A landing's frame leaves the Receive Buffer,
its entry is ABANDONED with bytes received and deadline as they were, its channel ends LOCAL_FAULT, and the frames behind are
dispatched in the same step. A cancelled burst reports nothing (R16, R22, R57, R77, R79, R162, R178, R179, R182). That the bus is
released before the other work of the step is the model's choice (log entry 24). -/
def Obligations.BusErrorEndsTheBurst : Prop :=
  ∀ (b : Burst) (s : State),
    let u : State := { s with port := { s.port with state :=
      if s.port.landing = none ∧ s.port.service = none ∧ s.port.fetches = [] then .free else .requesting } }
    (s.port.state = .burst b → b.cancelled = true → exec .busError s = .next u.settle) ∧
    (∀ c : ChannelNo, s.port.state = .burst b → b.cancelled = false → b.requester = .fetch c →
      ∃ t : State, exec .busError s = .next t ∧ (t.channel c).state = .off ∧ (t.channel c).code = .localFault ∧
        (t.channel c).front = (s.channel c).front ∧ t.ramWrites = s.ramWrites ∧
        ∀ g : Tag, (t.entry g).owner = .channel c → (t.entry g).state ≠ .queued ∧ (t.entry g).state ≠ .live) ∧
    (∀ (r : InRequest) (rest : List InRequest), s.port.state = .burst b → b.cancelled = false → b.requester = .service →
      (s.inbound.engine = .writing ∨ ∃ n : Nat, s.inbound.engine = .reading n) → s.inbound.queue = r :: rest →
      s.inbound.responses.length < 8 → exec .busError s = .next (State.settle { u with inbound := { s.inbound with
        queue := rest, engine := .idle
        responses := s.inbound.responses ++ [{ dest := r.src, tag := r.tag, answer := .refuse .localError }] } })) ∧
    (∀ (r : InRequest) (rest : List InRequest), s.port.state = .burst b → b.cancelled = false → b.requester = .service →
      (s.inbound.engine = .writing ∨ ∃ n : Nat, s.inbound.engine = .reading n) → s.inbound.queue = r :: rest →
      8 ≤ s.inbound.responses.length → exec .busError s = .next (State.settle { u with inbound := { s.inbound with
        engine := .answering { dest := r.src, tag := r.tag, answer := .refuse .localError } } })) ∧
    (∀ (c : ChannelNo) (g : Tag) (r : SegRecord) (f : Frame) (rest : List Frame), s.port.state = .burst b →
      b.cancelled = false → b.requester = .landing → s.landingTag = some g → s.rx.buffer = f :: rest → (s.entry g).owner = .channel c →
      (s.channel c).notice = none → (s.channel c).recordOf g = some r →
      ∃ v : State, exec .busError s = .next v.settle ∧
        v.entry g = { s.entry g with state := .abandoned, landingMark := false } ∧ v.channel c = { s.channel c with
          state := .off, code := .localFault, reason := none, latch := false, pause := false, waiting := false
          records := [], notice := none, payload := none } ∧
        ((∀ h : Tag, (s.entry h).landingMark = true → h = g) → v.rx.buffer = rest) ∧ v.ramWrites = s.ramWrites ∧
        v.settle.channel c = v.channel c ∧ v.settle.ramWrites = s.ramWrites ∧
        (∀ h : Tag, (v.settle.entry h).owner = .channel c →
          (v.settle.entry h).state ≠ .queued ∧ (v.settle.entry h).state ≠ .live) ∧
        (rest = [] → v.settle.entry g = v.entry g ∧ v.settle.rx.buffer = [])) ∧
    (s.port.state = .free → exec .busError s = .next { s with port := { s.port with tail := none } })

/-! ## Invariants -/

/-- State.reset meets every invariant stated below (R10, R14, R34, R58, R63, R65, R120, R190). -/
def Obligations.ResetMeetsTheInvariants : Prop :=
  TrackerTimers State.reset ∧ NoAbsentPeer State.reset ∧ OneQueued State.reset ∧ WithinDepth State.reset ∧
  WithinCapacity State.reset ∧ OwnAbsent State.reset ∧ WindowsAligned State.reset ∧ FlagBits State.reset ∧
  GarbleBound State.reset ∧ RecordsMatch State.reset

/-- Deadlines and quarantines run exactly in the entry states that have them, and the marks are set in no other state than
theirs, after every step (R34, 2.4, 2.7). -/
def Obligations.StepKeepsTrackerTimers : Prop :=
  ∀ s t : State, TrackerTimers s → step s = .next t → TrackerTimers t

/-- No entry in QUEUED, LIVE or ABANDONED names an ABSENT peer, while marks and timers are as StepKeepsTrackerTimers says, and
the roster entry of the own number is ABSENT, after every step (R58, R120). -/
def Obligations.StepKeepsNoAbsentPeer : Prop :=
  (∀ s t : State, TrackerTimers s → NoAbsentPeer s → step s = .next t → NoAbsentPeer t) ∧
  (∀ s t : State, OwnAbsent s → step s = .next t → OwnAbsent t)

/-- A channel owns at most one QUEUED entry; its OUTSTANDING records stay within its depth and its records within four, and one
that is OFF or ARMED has none in use; its OUTSTANDING records are, tag by tag and so in number, the READ and WRITE entries it
owns in QUEUED or LIVE, while marks and timers are as StepKeepsTrackerTimers says (R7, R14, R23). -/
def Obligations.StepKeepsDepth : Prop :=
  (∀ s t : State, OneQueued s → step s = .next t → OneQueued t) ∧
  (∀ s t : State, WithinDepth s → step s = .next t → WithinDepth t) ∧
  (∀ s t : State, TrackerTimers s → RecordsMatch s → step s = .next t → RecordsMatch t) ∧
  (∀ s : State, RecordsMatch s → ∀ c : ChannelNo, (s.channel c).outstandingCount = (allTags.filter fun g =>
    (s.entry g).owner = .channel c ∧ (s.entry g).kind ≠ .notice ∧
      ((s.entry g).state = .queued ∨ (s.entry g).state = .live)).length)

/-- The queues, the buffer and the hold depth stay within their bounds, window fields stay multiples of 4, flags and enables
hold only bits the map names, and the garble count is at most 4, with CONFLICT and a silent unit at 4 (R10, R65, R75, R81, R94,
R143, R150, R161, R185). -/
def Obligations.StepKeepsRanges : Prop :=
  (∀ s t : State, WithinCapacity s → step s = .next t → WithinCapacity t) ∧
  (∀ s t : State, WindowsAligned s → step s = .next t → WindowsAligned t) ∧
  (∀ s t : State, FlagBits s → step s = .next t → FlagBits t) ∧
  (∀ s t : State, GarbleBound s → step s = .next t → GarbleBound t)

/-- While the station is not OFFLINE no command but hardware reset changes a setting or the Window Table, a descriptor changes
only while its channel is OFF, and the enables only by EVT_ENABLE_WRITE (R1, R65, R105, R186, R191); only a word transfer's end
adds to what the port has written (R174, R177, R198). That no command touches the queue, and that written words are kept as a
record, are the model's choices (log entries 1 and 6). -/
def Obligations.ConfigurationIsLocked : Prop :=
  (∀ (i : Instr) (s t : State), s.host.resetLow = false → i ≠ .hardwareReset → exec i s = .next t →
    (s.member.state ≠ .offline →
      t.member.number = s.member.number ∧ t.member.tResp = s.member.tResp ∧ t.member.tHb = s.member.tHb ∧
      t.inbound.windows = s.inbound.windows) ∧
    (∀ c : ChannelNo, (s.channel c).state ≠ .off → (t.channel c).desc = (s.channel c).desc) ∧
    ((∀ v : Word, i ≠ .evtEnableWrite v) → t.host.enables = s.host.enables)) ∧
  (∀ (i : Instr) (s t : State), exec i s = .next t →
    t.pending = s.pending ∧
    ((∀ w : Word, i ≠ .wordTransferEnd w ∧ i ≠ .burstEnd w) → t.ramWrites = s.ramWrites))

end SliceStatements
end

