-- ==== Sys2Proof/Laws/State.lean ====
section
/-!
SUPPORT. One lemma per block of State per named update that leaves the block alone, so that no later proof unfolds an
update to see what it keeps.
-/

namespace Sys2Proof.Laws

open Sys2Proof Sys2Proof.Machine

variable (s : State)

/-! `setChannel` -/

@[simp] theorem setChannel_holdDepth (c : ChannelNo) (x : Channel) : (s.setChannel c x).holdDepth = s.holdDepth := rfl
@[simp] theorem setChannel_tracker (c : ChannelNo) (x : Channel) : (s.setChannel c x).tracker = s.tracker := rfl
@[simp] theorem setChannel_inbound (c : ChannelNo) (x : Channel) : (s.setChannel c x).inbound = s.inbound := rfl
@[simp] theorem setChannel_notices (c : ChannelNo) (x : Channel) : (s.setChannel c x).notices = s.notices := rfl
@[simp] theorem setChannel_member (c : ChannelNo) (x : Channel) : (s.setChannel c x).member = s.member := rfl
@[simp] theorem setChannel_link (c : ChannelNo) (x : Channel) : (s.setChannel c x).link = s.link := rfl
@[simp] theorem setChannel_rx (c : ChannelNo) (x : Channel) : (s.setChannel c x).rx = s.rx := rfl
@[simp] theorem setChannel_port (c : ChannelNo) (x : Channel) : (s.setChannel c x).port = s.port := rfl
@[simp] theorem setChannel_host (c : ChannelNo) (x : Channel) : (s.setChannel c x).host = s.host := rfl
@[simp] theorem setChannel_ramWrites (c : ChannelNo) (x : Channel) : (s.setChannel c x).ramWrites = s.ramWrites := rfl
@[simp] theorem setChannel_pending (c : ChannelNo) (x : Channel) : (s.setChannel c x).pending = s.pending := rfl

/-! `modifyChannel` -/

@[simp] theorem modifyChannel_holdDepth (c : ChannelNo) (f : Channel → Channel) : (s.modifyChannel c f).holdDepth = s.holdDepth := rfl
@[simp] theorem modifyChannel_tracker (c : ChannelNo) (f : Channel → Channel) : (s.modifyChannel c f).tracker = s.tracker := rfl
@[simp] theorem modifyChannel_inbound (c : ChannelNo) (f : Channel → Channel) : (s.modifyChannel c f).inbound = s.inbound := rfl
@[simp] theorem modifyChannel_notices (c : ChannelNo) (f : Channel → Channel) : (s.modifyChannel c f).notices = s.notices := rfl
@[simp] theorem modifyChannel_member (c : ChannelNo) (f : Channel → Channel) : (s.modifyChannel c f).member = s.member := rfl
@[simp] theorem modifyChannel_link (c : ChannelNo) (f : Channel → Channel) : (s.modifyChannel c f).link = s.link := rfl
@[simp] theorem modifyChannel_rx (c : ChannelNo) (f : Channel → Channel) : (s.modifyChannel c f).rx = s.rx := rfl
@[simp] theorem modifyChannel_port (c : ChannelNo) (f : Channel → Channel) : (s.modifyChannel c f).port = s.port := rfl
@[simp] theorem modifyChannel_host (c : ChannelNo) (f : Channel → Channel) : (s.modifyChannel c f).host = s.host := rfl
@[simp] theorem modifyChannel_ramWrites (c : ChannelNo) (f : Channel → Channel) : (s.modifyChannel c f).ramWrites = s.ramWrites := rfl
@[simp] theorem modifyChannel_pending (c : ChannelNo) (f : Channel → Channel) : (s.modifyChannel c f).pending = s.pending := rfl

/-! `mapChannels` -/

@[simp] theorem mapChannels_holdDepth (f : Channel → Channel) : (s.mapChannels f).holdDepth = s.holdDepth := rfl
@[simp] theorem mapChannels_tracker (f : Channel → Channel) : (s.mapChannels f).tracker = s.tracker := rfl
@[simp] theorem mapChannels_inbound (f : Channel → Channel) : (s.mapChannels f).inbound = s.inbound := rfl
@[simp] theorem mapChannels_notices (f : Channel → Channel) : (s.mapChannels f).notices = s.notices := rfl
@[simp] theorem mapChannels_member (f : Channel → Channel) : (s.mapChannels f).member = s.member := rfl
@[simp] theorem mapChannels_link (f : Channel → Channel) : (s.mapChannels f).link = s.link := rfl
@[simp] theorem mapChannels_rx (f : Channel → Channel) : (s.mapChannels f).rx = s.rx := rfl
@[simp] theorem mapChannels_port (f : Channel → Channel) : (s.mapChannels f).port = s.port := rfl
@[simp] theorem mapChannels_host (f : Channel → Channel) : (s.mapChannels f).host = s.host := rfl
@[simp] theorem mapChannels_ramWrites (f : Channel → Channel) : (s.mapChannels f).ramWrites = s.ramWrites := rfl
@[simp] theorem mapChannels_pending (f : Channel → Channel) : (s.mapChannels f).pending = s.pending := rfl

/-! `setEntry` -/

@[simp] theorem setEntry_channels (t : Tag) (e : Entry) : (s.setEntry t e).channels = s.channels := rfl
@[simp] theorem setEntry_holdDepth (t : Tag) (e : Entry) : (s.setEntry t e).holdDepth = s.holdDepth := rfl
@[simp] theorem setEntry_inbound (t : Tag) (e : Entry) : (s.setEntry t e).inbound = s.inbound := rfl
@[simp] theorem setEntry_notices (t : Tag) (e : Entry) : (s.setEntry t e).notices = s.notices := rfl
@[simp] theorem setEntry_member (t : Tag) (e : Entry) : (s.setEntry t e).member = s.member := rfl
@[simp] theorem setEntry_link (t : Tag) (e : Entry) : (s.setEntry t e).link = s.link := rfl
@[simp] theorem setEntry_rx (t : Tag) (e : Entry) : (s.setEntry t e).rx = s.rx := rfl
@[simp] theorem setEntry_port (t : Tag) (e : Entry) : (s.setEntry t e).port = s.port := rfl
@[simp] theorem setEntry_host (t : Tag) (e : Entry) : (s.setEntry t e).host = s.host := rfl
@[simp] theorem setEntry_ramWrites (t : Tag) (e : Entry) : (s.setEntry t e).ramWrites = s.ramWrites := rfl
@[simp] theorem setEntry_pending (t : Tag) (e : Entry) : (s.setEntry t e).pending = s.pending := rfl

/-! `dequeueTag` -/

@[simp] theorem dequeueTag_channels (t : Tag) : (s.dequeueTag t).channels = s.channels := rfl
@[simp] theorem dequeueTag_holdDepth (t : Tag) : (s.dequeueTag t).holdDepth = s.holdDepth := rfl
@[simp] theorem dequeueTag_inbound (t : Tag) : (s.dequeueTag t).inbound = s.inbound := rfl
@[simp] theorem dequeueTag_notices (t : Tag) : (s.dequeueTag t).notices = s.notices := rfl
@[simp] theorem dequeueTag_member (t : Tag) : (s.dequeueTag t).member = s.member := rfl
@[simp] theorem dequeueTag_link (t : Tag) : (s.dequeueTag t).link = s.link := rfl
@[simp] theorem dequeueTag_rx (t : Tag) : (s.dequeueTag t).rx = s.rx := rfl
@[simp] theorem dequeueTag_port (t : Tag) : (s.dequeueTag t).port = s.port := rfl
@[simp] theorem dequeueTag_host (t : Tag) : (s.dequeueTag t).host = s.host := rfl
@[simp] theorem dequeueTag_ramWrites (t : Tag) : (s.dequeueTag t).ramWrites = s.ramWrites := rfl
@[simp] theorem dequeueTag_pending (t : Tag) : (s.dequeueTag t).pending = s.pending := rfl

/-! `freeEntry` -/

@[simp] theorem freeEntry_channels (t : Tag) : (s.freeEntry t).channels = s.channels := rfl
@[simp] theorem freeEntry_holdDepth (t : Tag) : (s.freeEntry t).holdDepth = s.holdDepth := rfl
@[simp] theorem freeEntry_inbound (t : Tag) : (s.freeEntry t).inbound = s.inbound := rfl
@[simp] theorem freeEntry_notices (t : Tag) : (s.freeEntry t).notices = s.notices := rfl
@[simp] theorem freeEntry_member (t : Tag) : (s.freeEntry t).member = s.member := rfl
@[simp] theorem freeEntry_link (t : Tag) : (s.freeEntry t).link = s.link := rfl
@[simp] theorem freeEntry_rx (t : Tag) : (s.freeEntry t).rx = s.rx := rfl
@[simp] theorem freeEntry_port (t : Tag) : (s.freeEntry t).port = s.port := rfl
@[simp] theorem freeEntry_host (t : Tag) : (s.freeEntry t).host = s.host := rfl
@[simp] theorem freeEntry_ramWrites (t : Tag) : (s.freeEntry t).ramWrites = s.ramWrites := rfl
@[simp] theorem freeEntry_pending (t : Tag) : (s.freeEntry t).pending = s.pending := rfl

/-! `queueEntry` -/

@[simp] theorem queueEntry_channels (t : Tag) (e : Entry) : (s.queueEntry t e).channels = s.channels := rfl
@[simp] theorem queueEntry_holdDepth (t : Tag) (e : Entry) : (s.queueEntry t e).holdDepth = s.holdDepth := rfl
@[simp] theorem queueEntry_inbound (t : Tag) (e : Entry) : (s.queueEntry t e).inbound = s.inbound := rfl
@[simp] theorem queueEntry_notices (t : Tag) (e : Entry) : (s.queueEntry t e).notices = s.notices := rfl
@[simp] theorem queueEntry_member (t : Tag) (e : Entry) : (s.queueEntry t e).member = s.member := rfl
@[simp] theorem queueEntry_link (t : Tag) (e : Entry) : (s.queueEntry t e).link = s.link := rfl
@[simp] theorem queueEntry_rx (t : Tag) (e : Entry) : (s.queueEntry t e).rx = s.rx := rfl
@[simp] theorem queueEntry_port (t : Tag) (e : Entry) : (s.queueEntry t e).port = s.port := rfl
@[simp] theorem queueEntry_host (t : Tag) (e : Entry) : (s.queueEntry t e).host = s.host := rfl
@[simp] theorem queueEntry_ramWrites (t : Tag) (e : Entry) : (s.queueEntry t e).ramWrites = s.ramWrites := rfl
@[simp] theorem queueEntry_pending (t : Tag) (e : Entry) : (s.queueEntry t e).pending = s.pending := rfl

/-! `setRoster` -/

@[simp] theorem setRoster_channels (n : StationNo) (e : RosterEntry) : (s.setRoster n e).channels = s.channels := by unfold State.setRoster; split <;> rfl
@[simp] theorem setRoster_holdDepth (n : StationNo) (e : RosterEntry) : (s.setRoster n e).holdDepth = s.holdDepth := by unfold State.setRoster; split <;> rfl
@[simp] theorem setRoster_tracker (n : StationNo) (e : RosterEntry) : (s.setRoster n e).tracker = s.tracker := by unfold State.setRoster; split <;> rfl
@[simp] theorem setRoster_inbound (n : StationNo) (e : RosterEntry) : (s.setRoster n e).inbound = s.inbound := by unfold State.setRoster; split <;> rfl
@[simp] theorem setRoster_notices (n : StationNo) (e : RosterEntry) : (s.setRoster n e).notices = s.notices := by unfold State.setRoster; split <;> rfl
@[simp] theorem setRoster_link (n : StationNo) (e : RosterEntry) : (s.setRoster n e).link = s.link := by unfold State.setRoster; split <;> rfl
@[simp] theorem setRoster_rx (n : StationNo) (e : RosterEntry) : (s.setRoster n e).rx = s.rx := by unfold State.setRoster; split <;> rfl
@[simp] theorem setRoster_port (n : StationNo) (e : RosterEntry) : (s.setRoster n e).port = s.port := by unfold State.setRoster; split <;> rfl
@[simp] theorem setRoster_host (n : StationNo) (e : RosterEntry) : (s.setRoster n e).host = s.host := by unfold State.setRoster; split <;> rfl
@[simp] theorem setRoster_ramWrites (n : StationNo) (e : RosterEntry) : (s.setRoster n e).ramWrites = s.ramWrites := by unfold State.setRoster; split <;> rfl
@[simp] theorem setRoster_pending (n : StationNo) (e : RosterEntry) : (s.setRoster n e).pending = s.pending := by unfold State.setRoster; split <;> rfl

/-! `setControl` -/

@[simp] theorem setControl_channels (l : List ControlFrame) : (s.setControl l).channels = s.channels := rfl
@[simp] theorem setControl_holdDepth (l : List ControlFrame) : (s.setControl l).holdDepth = s.holdDepth := rfl
@[simp] theorem setControl_tracker (l : List ControlFrame) : (s.setControl l).tracker = s.tracker := rfl
@[simp] theorem setControl_inbound (l : List ControlFrame) : (s.setControl l).inbound = s.inbound := rfl
@[simp] theorem setControl_notices (l : List ControlFrame) : (s.setControl l).notices = s.notices := rfl
@[simp] theorem setControl_link (l : List ControlFrame) : (s.setControl l).link = s.link := rfl
@[simp] theorem setControl_rx (l : List ControlFrame) : (s.setControl l).rx = s.rx := rfl
@[simp] theorem setControl_port (l : List ControlFrame) : (s.setControl l).port = s.port := rfl
@[simp] theorem setControl_host (l : List ControlFrame) : (s.setControl l).host = s.host := rfl
@[simp] theorem setControl_ramWrites (l : List ControlFrame) : (s.setControl l).ramWrites = s.ramWrites := rfl
@[simp] theorem setControl_pending (l : List ControlFrame) : (s.setControl l).pending = s.pending := rfl

/-! `appendControl` -/

@[simp] theorem appendControl_channels (k : ControlKind) : (s.appendControl k).channels = s.channels := rfl
@[simp] theorem appendControl_holdDepth (k : ControlKind) : (s.appendControl k).holdDepth = s.holdDepth := rfl
@[simp] theorem appendControl_tracker (k : ControlKind) : (s.appendControl k).tracker = s.tracker := rfl
@[simp] theorem appendControl_inbound (k : ControlKind) : (s.appendControl k).inbound = s.inbound := rfl
@[simp] theorem appendControl_notices (k : ControlKind) : (s.appendControl k).notices = s.notices := rfl
@[simp] theorem appendControl_link (k : ControlKind) : (s.appendControl k).link = s.link := rfl
@[simp] theorem appendControl_rx (k : ControlKind) : (s.appendControl k).rx = s.rx := rfl
@[simp] theorem appendControl_port (k : ControlKind) : (s.appendControl k).port = s.port := rfl
@[simp] theorem appendControl_host (k : ControlKind) : (s.appendControl k).host = s.host := rfl
@[simp] theorem appendControl_ramWrites (k : ControlKind) : (s.appendControl k).ramWrites = s.ramWrites := rfl
@[simp] theorem appendControl_pending (k : ControlKind) : (s.appendControl k).pending = s.pending := rfl

/-! `raise` -/

@[simp] theorem raise_channels (f : EventFlag) : (s.raise f).channels = s.channels := rfl
@[simp] theorem raise_holdDepth (f : EventFlag) : (s.raise f).holdDepth = s.holdDepth := rfl
@[simp] theorem raise_tracker (f : EventFlag) : (s.raise f).tracker = s.tracker := rfl
@[simp] theorem raise_inbound (f : EventFlag) : (s.raise f).inbound = s.inbound := rfl
@[simp] theorem raise_notices (f : EventFlag) : (s.raise f).notices = s.notices := rfl
@[simp] theorem raise_member (f : EventFlag) : (s.raise f).member = s.member := rfl
@[simp] theorem raise_link (f : EventFlag) : (s.raise f).link = s.link := rfl
@[simp] theorem raise_rx (f : EventFlag) : (s.raise f).rx = s.rx := rfl
@[simp] theorem raise_port (f : EventFlag) : (s.raise f).port = s.port := rfl
@[simp] theorem raise_ramWrites (f : EventFlag) : (s.raise f).ramWrites = s.ramWrites := rfl
@[simp] theorem raise_pending (f : EventFlag) : (s.raise f).pending = s.pending := rfl

/-! `raiseIf` -/

@[simp] theorem raiseIf_channels (p : Bool) (f : EventFlag) : (s.raiseIf p f).channels = s.channels := by unfold State.raiseIf; split <;> rfl
@[simp] theorem raiseIf_holdDepth (p : Bool) (f : EventFlag) : (s.raiseIf p f).holdDepth = s.holdDepth := by unfold State.raiseIf; split <;> rfl
@[simp] theorem raiseIf_tracker (p : Bool) (f : EventFlag) : (s.raiseIf p f).tracker = s.tracker := by unfold State.raiseIf; split <;> rfl
@[simp] theorem raiseIf_inbound (p : Bool) (f : EventFlag) : (s.raiseIf p f).inbound = s.inbound := by unfold State.raiseIf; split <;> rfl
@[simp] theorem raiseIf_notices (p : Bool) (f : EventFlag) : (s.raiseIf p f).notices = s.notices := by unfold State.raiseIf; split <;> rfl
@[simp] theorem raiseIf_member (p : Bool) (f : EventFlag) : (s.raiseIf p f).member = s.member := by unfold State.raiseIf; split <;> rfl
@[simp] theorem raiseIf_link (p : Bool) (f : EventFlag) : (s.raiseIf p f).link = s.link := by unfold State.raiseIf; split <;> rfl
@[simp] theorem raiseIf_rx (p : Bool) (f : EventFlag) : (s.raiseIf p f).rx = s.rx := by unfold State.raiseIf; split <;> rfl
@[simp] theorem raiseIf_port (p : Bool) (f : EventFlag) : (s.raiseIf p f).port = s.port := by unfold State.raiseIf; split <;> rfl
@[simp] theorem raiseIf_ramWrites (p : Bool) (f : EventFlag) : (s.raiseIf p f).ramWrites = s.ramWrites := by unfold State.raiseIf; split <;> rfl
@[simp] theorem raiseIf_pending (p : Bool) (f : EventFlag) : (s.raiseIf p f).pending = s.pending := by unfold State.raiseIf; split <;> rfl

/-! `recordRefusal` -/

@[simp] theorem recordRefusal_channels (r : RefusalRecord) : (s.recordRefusal r).channels = s.channels := rfl
@[simp] theorem recordRefusal_holdDepth (r : RefusalRecord) : (s.recordRefusal r).holdDepth = s.holdDepth := rfl
@[simp] theorem recordRefusal_tracker (r : RefusalRecord) : (s.recordRefusal r).tracker = s.tracker := rfl
@[simp] theorem recordRefusal_inbound (r : RefusalRecord) : (s.recordRefusal r).inbound = s.inbound := rfl
@[simp] theorem recordRefusal_notices (r : RefusalRecord) : (s.recordRefusal r).notices = s.notices := rfl
@[simp] theorem recordRefusal_member (r : RefusalRecord) : (s.recordRefusal r).member = s.member := rfl
@[simp] theorem recordRefusal_link (r : RefusalRecord) : (s.recordRefusal r).link = s.link := rfl
@[simp] theorem recordRefusal_rx (r : RefusalRecord) : (s.recordRefusal r).rx = s.rx := rfl
@[simp] theorem recordRefusal_port (r : RefusalRecord) : (s.recordRefusal r).port = s.port := rfl
@[simp] theorem recordRefusal_ramWrites (r : RefusalRecord) : (s.recordRefusal r).ramWrites = s.ramWrites := rfl
@[simp] theorem recordRefusal_pending (r : RefusalRecord) : (s.recordRefusal r).pending = s.pending := rfl

/-! `refuse` -/

@[simp] theorem refuse_channels (code : BitVec 8) (op : BitVec 3) (r : RefusalReason) : (s.refuse code op r).channels = s.channels := rfl
@[simp] theorem refuse_holdDepth (code : BitVec 8) (op : BitVec 3) (r : RefusalReason) : (s.refuse code op r).holdDepth = s.holdDepth := rfl
@[simp] theorem refuse_tracker (code : BitVec 8) (op : BitVec 3) (r : RefusalReason) : (s.refuse code op r).tracker = s.tracker := rfl
@[simp] theorem refuse_inbound (code : BitVec 8) (op : BitVec 3) (r : RefusalReason) : (s.refuse code op r).inbound = s.inbound := rfl
@[simp] theorem refuse_notices (code : BitVec 8) (op : BitVec 3) (r : RefusalReason) : (s.refuse code op r).notices = s.notices := rfl
@[simp] theorem refuse_member (code : BitVec 8) (op : BitVec 3) (r : RefusalReason) : (s.refuse code op r).member = s.member := rfl
@[simp] theorem refuse_link (code : BitVec 8) (op : BitVec 3) (r : RefusalReason) : (s.refuse code op r).link = s.link := rfl
@[simp] theorem refuse_rx (code : BitVec 8) (op : BitVec 3) (r : RefusalReason) : (s.refuse code op r).rx = s.rx := rfl
@[simp] theorem refuse_port (code : BitVec 8) (op : BitVec 3) (r : RefusalReason) : (s.refuse code op r).port = s.port := rfl
@[simp] theorem refuse_ramWrites (code : BitVec 8) (op : BitVec 3) (r : RefusalReason) : (s.refuse code op r).ramWrites = s.ramWrites := rfl
@[simp] theorem refuse_pending (code : BitVec 8) (op : BitVec 3) (r : RefusalReason) : (s.refuse code op r).pending = s.pending := rfl

/-! `lockedWrite` -/

@[simp] theorem lockedWrite_channels (o : BitVec 10) : (s.lockedWrite o).channels = s.channels := rfl
@[simp] theorem lockedWrite_holdDepth (o : BitVec 10) : (s.lockedWrite o).holdDepth = s.holdDepth := rfl
@[simp] theorem lockedWrite_tracker (o : BitVec 10) : (s.lockedWrite o).tracker = s.tracker := rfl
@[simp] theorem lockedWrite_inbound (o : BitVec 10) : (s.lockedWrite o).inbound = s.inbound := rfl
@[simp] theorem lockedWrite_notices (o : BitVec 10) : (s.lockedWrite o).notices = s.notices := rfl
@[simp] theorem lockedWrite_member (o : BitVec 10) : (s.lockedWrite o).member = s.member := rfl
@[simp] theorem lockedWrite_link (o : BitVec 10) : (s.lockedWrite o).link = s.link := rfl
@[simp] theorem lockedWrite_rx (o : BitVec 10) : (s.lockedWrite o).rx = s.rx := rfl
@[simp] theorem lockedWrite_port (o : BitVec 10) : (s.lockedWrite o).port = s.port := rfl
@[simp] theorem lockedWrite_ramWrites (o : BitVec 10) : (s.lockedWrite o).ramWrites = s.ramWrites := rfl
@[simp] theorem lockedWrite_pending (o : BitVec 10) : (s.lockedWrite o).pending = s.pending := rfl

/-! `countBadFrame` -/

@[simp] theorem countBadFrame_channels : (s.countBadFrame).channels = s.channels := rfl
@[simp] theorem countBadFrame_holdDepth : (s.countBadFrame).holdDepth = s.holdDepth := rfl
@[simp] theorem countBadFrame_tracker : (s.countBadFrame).tracker = s.tracker := rfl
@[simp] theorem countBadFrame_inbound : (s.countBadFrame).inbound = s.inbound := rfl
@[simp] theorem countBadFrame_notices : (s.countBadFrame).notices = s.notices := rfl
@[simp] theorem countBadFrame_member : (s.countBadFrame).member = s.member := rfl
@[simp] theorem countBadFrame_link : (s.countBadFrame).link = s.link := rfl
@[simp] theorem countBadFrame_port : (s.countBadFrame).port = s.port := rfl
@[simp] theorem countBadFrame_host : (s.countBadFrame).host = s.host := rfl
@[simp] theorem countBadFrame_ramWrites : (s.countBadFrame).ramWrites = s.ramWrites := rfl
@[simp] theorem countBadFrame_pending : (s.countBadFrame).pending = s.pending := rfl

/-! `countStale` -/

@[simp] theorem countStale_channels : (s.countStale).channels = s.channels := rfl
@[simp] theorem countStale_holdDepth : (s.countStale).holdDepth = s.holdDepth := rfl
@[simp] theorem countStale_tracker : (s.countStale).tracker = s.tracker := rfl
@[simp] theorem countStale_inbound : (s.countStale).inbound = s.inbound := rfl
@[simp] theorem countStale_notices : (s.countStale).notices = s.notices := rfl
@[simp] theorem countStale_member : (s.countStale).member = s.member := rfl
@[simp] theorem countStale_link : (s.countStale).link = s.link := rfl
@[simp] theorem countStale_port : (s.countStale).port = s.port := rfl
@[simp] theorem countStale_host : (s.countStale).host = s.host := rfl
@[simp] theorem countStale_ramWrites : (s.countStale).ramWrites = s.ramWrites := rfl
@[simp] theorem countStale_pending : (s.countStale).pending = s.pending := rfl

/-! `countDropped` -/

@[simp] theorem countDropped_channels : (s.countDropped).channels = s.channels := rfl
@[simp] theorem countDropped_holdDepth : (s.countDropped).holdDepth = s.holdDepth := rfl
@[simp] theorem countDropped_tracker : (s.countDropped).tracker = s.tracker := rfl
@[simp] theorem countDropped_inbound : (s.countDropped).inbound = s.inbound := rfl
@[simp] theorem countDropped_notices : (s.countDropped).notices = s.notices := rfl
@[simp] theorem countDropped_member : (s.countDropped).member = s.member := rfl
@[simp] theorem countDropped_link : (s.countDropped).link = s.link := rfl
@[simp] theorem countDropped_port : (s.countDropped).port = s.port := rfl
@[simp] theorem countDropped_host : (s.countDropped).host = s.host := rfl
@[simp] theorem countDropped_ramWrites : (s.countDropped).ramWrites = s.ramWrites := rfl
@[simp] theorem countDropped_pending : (s.countDropped).pending = s.pending := rfl

/-! `popBuffer` -/

@[simp] theorem popBuffer_channels : (s.popBuffer).channels = s.channels := rfl
@[simp] theorem popBuffer_holdDepth : (s.popBuffer).holdDepth = s.holdDepth := rfl
@[simp] theorem popBuffer_tracker : (s.popBuffer).tracker = s.tracker := rfl
@[simp] theorem popBuffer_inbound : (s.popBuffer).inbound = s.inbound := rfl
@[simp] theorem popBuffer_notices : (s.popBuffer).notices = s.notices := rfl
@[simp] theorem popBuffer_member : (s.popBuffer).member = s.member := rfl
@[simp] theorem popBuffer_link : (s.popBuffer).link = s.link := rfl
@[simp] theorem popBuffer_port : (s.popBuffer).port = s.port := rfl
@[simp] theorem popBuffer_host : (s.popBuffer).host = s.host := rfl
@[simp] theorem popBuffer_ramWrites : (s.popBuffer).ramWrites = s.ramWrites := rfl
@[simp] theorem popBuffer_pending : (s.popBuffer).pending = s.pending := rfl

/-! `rxSkip` -/

@[simp] theorem rxSkip_channels : (s.rxSkip).channels = s.channels := by unfold State.rxSkip; split <;> rfl
@[simp] theorem rxSkip_holdDepth : (s.rxSkip).holdDepth = s.holdDepth := by unfold State.rxSkip; split <;> rfl
@[simp] theorem rxSkip_tracker : (s.rxSkip).tracker = s.tracker := by unfold State.rxSkip; split <;> rfl
@[simp] theorem rxSkip_inbound : (s.rxSkip).inbound = s.inbound := by unfold State.rxSkip; split <;> rfl
@[simp] theorem rxSkip_notices : (s.rxSkip).notices = s.notices := by unfold State.rxSkip; split <;> rfl
@[simp] theorem rxSkip_member : (s.rxSkip).member = s.member := by unfold State.rxSkip; split <;> rfl
@[simp] theorem rxSkip_link : (s.rxSkip).link = s.link := by unfold State.rxSkip; split <;> rfl
@[simp] theorem rxSkip_port : (s.rxSkip).port = s.port := by unfold State.rxSkip; split <;> rfl
@[simp] theorem rxSkip_host : (s.rxSkip).host = s.host := by unfold State.rxSkip; split <;> rfl
@[simp] theorem rxSkip_ramWrites : (s.rxSkip).ramWrites = s.ramWrites := by unfold State.rxSkip; split <;> rfl
@[simp] theorem rxSkip_pending : (s.rxSkip).pending = s.pending := by unfold State.rxSkip; split <;> rfl

/-! `requestLanding` -/

@[simp] theorem requestLanding_channels (r : BurstRequest) : (s.requestLanding r).channels = s.channels := rfl
@[simp] theorem requestLanding_holdDepth (r : BurstRequest) : (s.requestLanding r).holdDepth = s.holdDepth := rfl
@[simp] theorem requestLanding_tracker (r : BurstRequest) : (s.requestLanding r).tracker = s.tracker := rfl
@[simp] theorem requestLanding_inbound (r : BurstRequest) : (s.requestLanding r).inbound = s.inbound := rfl
@[simp] theorem requestLanding_notices (r : BurstRequest) : (s.requestLanding r).notices = s.notices := rfl
@[simp] theorem requestLanding_member (r : BurstRequest) : (s.requestLanding r).member = s.member := rfl
@[simp] theorem requestLanding_link (r : BurstRequest) : (s.requestLanding r).link = s.link := rfl
@[simp] theorem requestLanding_rx (r : BurstRequest) : (s.requestLanding r).rx = s.rx := rfl
@[simp] theorem requestLanding_host (r : BurstRequest) : (s.requestLanding r).host = s.host := rfl
@[simp] theorem requestLanding_ramWrites (r : BurstRequest) : (s.requestLanding r).ramWrites = s.ramWrites := rfl
@[simp] theorem requestLanding_pending (r : BurstRequest) : (s.requestLanding r).pending = s.pending := rfl

/-! `requestService` -/

@[simp] theorem requestService_channels (r : BurstRequest) : (s.requestService r).channels = s.channels := rfl
@[simp] theorem requestService_holdDepth (r : BurstRequest) : (s.requestService r).holdDepth = s.holdDepth := rfl
@[simp] theorem requestService_tracker (r : BurstRequest) : (s.requestService r).tracker = s.tracker := rfl
@[simp] theorem requestService_inbound (r : BurstRequest) : (s.requestService r).inbound = s.inbound := rfl
@[simp] theorem requestService_notices (r : BurstRequest) : (s.requestService r).notices = s.notices := rfl
@[simp] theorem requestService_member (r : BurstRequest) : (s.requestService r).member = s.member := rfl
@[simp] theorem requestService_link (r : BurstRequest) : (s.requestService r).link = s.link := rfl
@[simp] theorem requestService_rx (r : BurstRequest) : (s.requestService r).rx = s.rx := rfl
@[simp] theorem requestService_host (r : BurstRequest) : (s.requestService r).host = s.host := rfl
@[simp] theorem requestService_ramWrites (r : BurstRequest) : (s.requestService r).ramWrites = s.ramWrites := rfl
@[simp] theorem requestService_pending (r : BurstRequest) : (s.requestService r).pending = s.pending := rfl

/-! `requestFetch` -/

@[simp] theorem requestFetch_channels (c : ChannelNo) (r : BurstRequest) : (s.requestFetch c r).channels = s.channels := rfl
@[simp] theorem requestFetch_holdDepth (c : ChannelNo) (r : BurstRequest) : (s.requestFetch c r).holdDepth = s.holdDepth := rfl
@[simp] theorem requestFetch_tracker (c : ChannelNo) (r : BurstRequest) : (s.requestFetch c r).tracker = s.tracker := rfl
@[simp] theorem requestFetch_inbound (c : ChannelNo) (r : BurstRequest) : (s.requestFetch c r).inbound = s.inbound := rfl
@[simp] theorem requestFetch_notices (c : ChannelNo) (r : BurstRequest) : (s.requestFetch c r).notices = s.notices := rfl
@[simp] theorem requestFetch_member (c : ChannelNo) (r : BurstRequest) : (s.requestFetch c r).member = s.member := rfl
@[simp] theorem requestFetch_link (c : ChannelNo) (r : BurstRequest) : (s.requestFetch c r).link = s.link := rfl
@[simp] theorem requestFetch_rx (c : ChannelNo) (r : BurstRequest) : (s.requestFetch c r).rx = s.rx := rfl
@[simp] theorem requestFetch_host (c : ChannelNo) (r : BurstRequest) : (s.requestFetch c r).host = s.host := rfl
@[simp] theorem requestFetch_ramWrites (c : ChannelNo) (r : BurstRequest) : (s.requestFetch c r).ramWrites = s.ramWrites := rfl
@[simp] theorem requestFetch_pending (c : ChannelNo) (r : BurstRequest) : (s.requestFetch c r).pending = s.pending := rfl

/-! `withdrawLanding` -/

@[simp] theorem withdrawLanding_channels : (s.withdrawLanding).channels = s.channels := rfl
@[simp] theorem withdrawLanding_holdDepth : (s.withdrawLanding).holdDepth = s.holdDepth := rfl
@[simp] theorem withdrawLanding_tracker : (s.withdrawLanding).tracker = s.tracker := rfl
@[simp] theorem withdrawLanding_inbound : (s.withdrawLanding).inbound = s.inbound := rfl
@[simp] theorem withdrawLanding_notices : (s.withdrawLanding).notices = s.notices := rfl
@[simp] theorem withdrawLanding_member : (s.withdrawLanding).member = s.member := rfl
@[simp] theorem withdrawLanding_link : (s.withdrawLanding).link = s.link := rfl
@[simp] theorem withdrawLanding_rx : (s.withdrawLanding).rx = s.rx := rfl
@[simp] theorem withdrawLanding_host : (s.withdrawLanding).host = s.host := rfl
@[simp] theorem withdrawLanding_ramWrites : (s.withdrawLanding).ramWrites = s.ramWrites := rfl
@[simp] theorem withdrawLanding_pending : (s.withdrawLanding).pending = s.pending := rfl

/-! `withdrawService` -/

@[simp] theorem withdrawService_channels : (s.withdrawService).channels = s.channels := rfl
@[simp] theorem withdrawService_holdDepth : (s.withdrawService).holdDepth = s.holdDepth := rfl
@[simp] theorem withdrawService_tracker : (s.withdrawService).tracker = s.tracker := rfl
@[simp] theorem withdrawService_inbound : (s.withdrawService).inbound = s.inbound := rfl
@[simp] theorem withdrawService_notices : (s.withdrawService).notices = s.notices := rfl
@[simp] theorem withdrawService_member : (s.withdrawService).member = s.member := rfl
@[simp] theorem withdrawService_link : (s.withdrawService).link = s.link := rfl
@[simp] theorem withdrawService_rx : (s.withdrawService).rx = s.rx := rfl
@[simp] theorem withdrawService_host : (s.withdrawService).host = s.host := rfl
@[simp] theorem withdrawService_ramWrites : (s.withdrawService).ramWrites = s.ramWrites := rfl
@[simp] theorem withdrawService_pending : (s.withdrawService).pending = s.pending := rfl

/-! `withdrawFetch` -/

@[simp] theorem withdrawFetch_channels (c : ChannelNo) : (s.withdrawFetch c).channels = s.channels := rfl
@[simp] theorem withdrawFetch_holdDepth (c : ChannelNo) : (s.withdrawFetch c).holdDepth = s.holdDepth := rfl
@[simp] theorem withdrawFetch_tracker (c : ChannelNo) : (s.withdrawFetch c).tracker = s.tracker := rfl
@[simp] theorem withdrawFetch_inbound (c : ChannelNo) : (s.withdrawFetch c).inbound = s.inbound := rfl
@[simp] theorem withdrawFetch_notices (c : ChannelNo) : (s.withdrawFetch c).notices = s.notices := rfl
@[simp] theorem withdrawFetch_member (c : ChannelNo) : (s.withdrawFetch c).member = s.member := rfl
@[simp] theorem withdrawFetch_link (c : ChannelNo) : (s.withdrawFetch c).link = s.link := rfl
@[simp] theorem withdrawFetch_rx (c : ChannelNo) : (s.withdrawFetch c).rx = s.rx := rfl
@[simp] theorem withdrawFetch_host (c : ChannelNo) : (s.withdrawFetch c).host = s.host := rfl
@[simp] theorem withdrawFetch_ramWrites (c : ChannelNo) : (s.withdrawFetch c).ramWrites = s.ramWrites := rfl
@[simp] theorem withdrawFetch_pending (c : ChannelNo) : (s.withdrawFetch c).pending = s.pending := rfl

/-! `releaseBus` -/

@[simp] theorem releaseBus_channels : (s.releaseBus).channels = s.channels := rfl
@[simp] theorem releaseBus_holdDepth : (s.releaseBus).holdDepth = s.holdDepth := rfl
@[simp] theorem releaseBus_tracker : (s.releaseBus).tracker = s.tracker := rfl
@[simp] theorem releaseBus_inbound : (s.releaseBus).inbound = s.inbound := rfl
@[simp] theorem releaseBus_notices : (s.releaseBus).notices = s.notices := rfl
@[simp] theorem releaseBus_member : (s.releaseBus).member = s.member := rfl
@[simp] theorem releaseBus_link : (s.releaseBus).link = s.link := rfl
@[simp] theorem releaseBus_rx : (s.releaseBus).rx = s.rx := rfl
@[simp] theorem releaseBus_host : (s.releaseBus).host = s.host := rfl
@[simp] theorem releaseBus_ramWrites : (s.releaseBus).ramWrites = s.ramWrites := rfl
@[simp] theorem releaseBus_pending : (s.releaseBus).pending = s.pending := rfl

/-! `stopDriving` -/

@[simp] theorem stopDriving_channels : (s.stopDriving).channels = s.channels := rfl
@[simp] theorem stopDriving_holdDepth : (s.stopDriving).holdDepth = s.holdDepth := rfl
@[simp] theorem stopDriving_tracker : (s.stopDriving).tracker = s.tracker := rfl
@[simp] theorem stopDriving_inbound : (s.stopDriving).inbound = s.inbound := rfl
@[simp] theorem stopDriving_notices : (s.stopDriving).notices = s.notices := rfl
@[simp] theorem stopDriving_member : (s.stopDriving).member = s.member := rfl
@[simp] theorem stopDriving_rx : (s.stopDriving).rx = s.rx := rfl
@[simp] theorem stopDriving_port : (s.stopDriving).port = s.port := rfl
@[simp] theorem stopDriving_host : (s.stopDriving).host = s.host := rfl
@[simp] theorem stopDriving_ramWrites : (s.stopDriving).ramWrites = s.ramWrites := rfl
@[simp] theorem stopDriving_pending : (s.stopDriving).pending = s.pending := rfl

/-! `setSlot` -/

@[simp] theorem setSlot_channels (x : Slot) : (s.setSlot x).channels = s.channels := rfl
@[simp] theorem setSlot_holdDepth (x : Slot) : (s.setSlot x).holdDepth = s.holdDepth := rfl
@[simp] theorem setSlot_tracker (x : Slot) : (s.setSlot x).tracker = s.tracker := rfl
@[simp] theorem setSlot_inbound (x : Slot) : (s.setSlot x).inbound = s.inbound := rfl
@[simp] theorem setSlot_member (x : Slot) : (s.setSlot x).member = s.member := rfl
@[simp] theorem setSlot_link (x : Slot) : (s.setSlot x).link = s.link := rfl
@[simp] theorem setSlot_rx (x : Slot) : (s.setSlot x).rx = s.rx := rfl
@[simp] theorem setSlot_port (x : Slot) : (s.setSlot x).port = s.port := rfl
@[simp] theorem setSlot_host (x : Slot) : (s.setSlot x).host = s.host := rfl
@[simp] theorem setSlot_ramWrites (x : Slot) : (s.setSlot x).ramWrites = s.ramWrites := rfl
@[simp] theorem setSlot_pending (x : Slot) : (s.setSlot x).pending = s.pending := rfl

/-! `appendNotice` -/

@[simp] theorem appendNotice_channels (n : StationNo) (c : BitVec 16) : (s.appendNotice n c).channels = s.channels := rfl
@[simp] theorem appendNotice_holdDepth (n : StationNo) (c : BitVec 16) : (s.appendNotice n c).holdDepth = s.holdDepth := rfl
@[simp] theorem appendNotice_tracker (n : StationNo) (c : BitVec 16) : (s.appendNotice n c).tracker = s.tracker := rfl
@[simp] theorem appendNotice_inbound (n : StationNo) (c : BitVec 16) : (s.appendNotice n c).inbound = s.inbound := rfl
@[simp] theorem appendNotice_member (n : StationNo) (c : BitVec 16) : (s.appendNotice n c).member = s.member := rfl
@[simp] theorem appendNotice_link (n : StationNo) (c : BitVec 16) : (s.appendNotice n c).link = s.link := rfl
@[simp] theorem appendNotice_rx (n : StationNo) (c : BitVec 16) : (s.appendNotice n c).rx = s.rx := rfl
@[simp] theorem appendNotice_port (n : StationNo) (c : BitVec 16) : (s.appendNotice n c).port = s.port := rfl
@[simp] theorem appendNotice_host (n : StationNo) (c : BitVec 16) : (s.appendNotice n c).host = s.host := rfl
@[simp] theorem appendNotice_ramWrites (n : StationNo) (c : BitVec 16) : (s.appendNotice n c).ramWrites = s.ramWrites := rfl
@[simp] theorem appendNotice_pending (n : StationNo) (c : BitVec 16) : (s.appendNotice n c).pending = s.pending := rfl

/-! `placeResponse` -/

@[simp] theorem placeResponse_channels (r : Response) : (s.placeResponse r).channels = s.channels := rfl
@[simp] theorem placeResponse_holdDepth (r : Response) : (s.placeResponse r).holdDepth = s.holdDepth := rfl
@[simp] theorem placeResponse_tracker (r : Response) : (s.placeResponse r).tracker = s.tracker := rfl
@[simp] theorem placeResponse_notices (r : Response) : (s.placeResponse r).notices = s.notices := rfl
@[simp] theorem placeResponse_member (r : Response) : (s.placeResponse r).member = s.member := rfl
@[simp] theorem placeResponse_link (r : Response) : (s.placeResponse r).link = s.link := rfl
@[simp] theorem placeResponse_rx (r : Response) : (s.placeResponse r).rx = s.rx := rfl
@[simp] theorem placeResponse_port (r : Response) : (s.placeResponse r).port = s.port := rfl
@[simp] theorem placeResponse_host (r : Response) : (s.placeResponse r).host = s.host := rfl
@[simp] theorem placeResponse_ramWrites (r : Response) : (s.placeResponse r).ramWrites = s.ramWrites := rfl
@[simp] theorem placeResponse_pending (r : Response) : (s.placeResponse r).pending = s.pending := rfl

/-! `setEngine` -/

@[simp] theorem setEngine_channels (e : Engine) : (s.setEngine e).channels = s.channels := rfl
@[simp] theorem setEngine_holdDepth (e : Engine) : (s.setEngine e).holdDepth = s.holdDepth := rfl
@[simp] theorem setEngine_tracker (e : Engine) : (s.setEngine e).tracker = s.tracker := rfl
@[simp] theorem setEngine_notices (e : Engine) : (s.setEngine e).notices = s.notices := rfl
@[simp] theorem setEngine_member (e : Engine) : (s.setEngine e).member = s.member := rfl
@[simp] theorem setEngine_link (e : Engine) : (s.setEngine e).link = s.link := rfl
@[simp] theorem setEngine_rx (e : Engine) : (s.setEngine e).rx = s.rx := rfl
@[simp] theorem setEngine_port (e : Engine) : (s.setEngine e).port = s.port := rfl
@[simp] theorem setEngine_host (e : Engine) : (s.setEngine e).host = s.host := rfl
@[simp] theorem setEngine_ramWrites (e : Engine) : (s.setEngine e).ramWrites = s.ramWrites := rfl
@[simp] theorem setEngine_pending (e : Engine) : (s.setEngine e).pending = s.pending := rfl

/-! `headDone` -/

@[simp] theorem headDone_channels : (s.headDone).channels = s.channels := rfl
@[simp] theorem headDone_holdDepth : (s.headDone).holdDepth = s.holdDepth := rfl
@[simp] theorem headDone_tracker : (s.headDone).tracker = s.tracker := rfl
@[simp] theorem headDone_notices : (s.headDone).notices = s.notices := rfl
@[simp] theorem headDone_member : (s.headDone).member = s.member := rfl
@[simp] theorem headDone_link : (s.headDone).link = s.link := rfl
@[simp] theorem headDone_rx : (s.headDone).rx = s.rx := rfl
@[simp] theorem headDone_port : (s.headDone).port = s.port := rfl
@[simp] theorem headDone_host : (s.headDone).host = s.host := rfl
@[simp] theorem headDone_ramWrites : (s.headDone).ramWrites = s.ramWrites := rfl
@[simp] theorem headDone_pending : (s.headDone).pending = s.pending := rfl

/-! `chunkRead` -/

@[simp] theorem chunkRead_channels (r : InRequest) (o : Nat) (ws : List Word) : (s.chunkRead r o ws).channels = s.channels := rfl
@[simp] theorem chunkRead_holdDepth (r : InRequest) (o : Nat) (ws : List Word) : (s.chunkRead r o ws).holdDepth = s.holdDepth := rfl
@[simp] theorem chunkRead_tracker (r : InRequest) (o : Nat) (ws : List Word) : (s.chunkRead r o ws).tracker = s.tracker := rfl
@[simp] theorem chunkRead_notices (r : InRequest) (o : Nat) (ws : List Word) : (s.chunkRead r o ws).notices = s.notices := rfl
@[simp] theorem chunkRead_member (r : InRequest) (o : Nat) (ws : List Word) : (s.chunkRead r o ws).member = s.member := rfl
@[simp] theorem chunkRead_link (r : InRequest) (o : Nat) (ws : List Word) : (s.chunkRead r o ws).link = s.link := rfl
@[simp] theorem chunkRead_rx (r : InRequest) (o : Nat) (ws : List Word) : (s.chunkRead r o ws).rx = s.rx := rfl
@[simp] theorem chunkRead_port (r : InRequest) (o : Nat) (ws : List Word) : (s.chunkRead r o ws).port = s.port := rfl
@[simp] theorem chunkRead_host (r : InRequest) (o : Nat) (ws : List Word) : (s.chunkRead r o ws).host = s.host := rfl
@[simp] theorem chunkRead_ramWrites (r : InRequest) (o : Nat) (ws : List Word) : (s.chunkRead r o ws).ramWrites = s.ramWrites := rfl
@[simp] theorem chunkRead_pending (r : InRequest) (o : Nat) (ws : List Word) : (s.chunkRead r o ws).pending = s.pending := rfl

end Sys2Proof.Laws
end

