-- ==== Sys2Proof/Laws/Tables.lean ====
section
/-!
SUPPORT. Reading a table after writing it: channels, tracker entries, roster entries.
-/

namespace Sys2Proof.Laws

open Sys2Proof Sys2Proof.Machine

/-! ## mapTable -/

@[simp] theorem mapTable_get {α : Type} {n : Nat} (f : α → α) (v : Vector α n) (i : Fin n) :
    (mapTable f v).get i = f (v.get i) := by
  simp [mapTable, Vector.get]
  rfl

@[simp] theorem mapTable_toList {α : Type} {n : Nat} (f : α → α) (v : Vector α n) :
    (mapTable f v).toList = v.toList.map f := by
  simp [mapTable, Vector.toList]

/-! ## Vector.set and Vector.get -/

theorem vector_get_set {α : Type} {n : Nat} (v : Vector α n) (i j : Fin n) (x : α) :
    (v.set i.val x i.isLt).get j = if j = i then x else v.get j := by
  by_cases h : j = i
  · subst h
    simp [Vector.get_eq_getElem]
  · have h' : i.val ≠ j.val := fun e => h (Fin.ext e.symm)
    simp [Vector.get_eq_getElem, h, h']

/-! ## Channels -/

variable (s : State)

theorem channel_setChannel (c d : ChannelNo) (x : Channel) :
    (s.setChannel c x).channel d = if d = c then x else s.channel d := by
  simp [State.channel, State.setChannel, vector_get_set]

@[simp] theorem channel_setChannel_self (c : ChannelNo) (x : Channel) : (s.setChannel c x).channel c = x := by
  simp [channel_setChannel]

theorem channel_setChannel_other {c d : ChannelNo} (h : d ≠ c) (x : Channel) :
    (s.setChannel c x).channel d = s.channel d := by
  simp [channel_setChannel, h]

theorem channel_modifyChannel (c d : ChannelNo) (f : Channel → Channel) :
    (s.modifyChannel c f).channel d = if d = c then f (s.channel c) else s.channel d := by
  simp [State.modifyChannel, channel_setChannel]

@[simp] theorem channel_modifyChannel_self (c : ChannelNo) (f : Channel → Channel) :
    (s.modifyChannel c f).channel c = f (s.channel c) := by
  simp [channel_modifyChannel]

@[simp] theorem channel_mapChannels (c : ChannelNo) (f : Channel → Channel) :
    (s.mapChannels f).channel c = f (s.channel c) := by
  simp [State.channel, State.mapChannels]

/-- A channel is read from the channels alone. -/
theorem channel_congr {s t : State} (h : s.channels = t.channels) (c : ChannelNo) : s.channel c = t.channel c := by
  simp [State.channel, h]

/-! ## Tracker entries -/

theorem entry_setEntry (t u : Tag) (e : Entry) : (s.setEntry t e).entry u = if u = t then e else s.entry u := by
  simp [State.entry, State.setEntry, vector_get_set]

@[simp] theorem entry_setEntry_self (t : Tag) (e : Entry) : (s.setEntry t e).entry t = e := by
  simp [entry_setEntry]

theorem entry_setEntry_other {t u : Tag} (h : u ≠ t) (e : Entry) : (s.setEntry t e).entry u = s.entry u := by
  simp [entry_setEntry, h]

@[simp] theorem entry_dequeueTag (t u : Tag) : (s.dequeueTag t).entry u = s.entry u := rfl

theorem entry_queueEntry (t u : Tag) (e : Entry) :
    (s.queueEntry t e).entry u = if u = t then { e with state := .queued } else s.entry u :=
  entry_setEntry s t u _

/-- An entry is read from the tracker alone. -/
theorem entry_congr {s t : State} (h : s.tracker = t.tracker) (u : Tag) : s.entry u = t.entry u := by
  simp [State.entry, h]

/-- Every tag stands in the list of tags. -/
theorem mem_allTags (t : Tag) : t ∈ allTags := by
  revert t; decide

/-- Every channel stands in the list of channels. -/
theorem mem_allChannels (c : ChannelNo) : c ∈ allChannels := by
  revert c; decide

/-! ## The roster -/

theorem rosterEntry_setRoster (n m : StationNo) (e : RosterEntry) :
    (s.setRoster n e).rosterEntry m = if m = n ∧ n.toNat < 31 then e else s.rosterEntry m := by
  unfold State.setRoster State.rosterEntry
  by_cases hn : n.toNat < 31
  · by_cases hm : m.toNat < 31
    · have hv := vector_get_set s.member.roster ⟨n.toNat, hn⟩ ⟨m.toNat, hm⟩ e
      have hiff : ((⟨m.toNat, hm⟩ : Fin 31) = ⟨n.toNat, hn⟩) ↔ m = n := by
        constructor
        · intro h; exact BitVec.eq_of_toNat_eq (by simpa using h)
        · intro h; subst h; rfl
      simp only [hn, hm, dite_true, and_true]
      rw [hv]
      simp [hiff]
    · have hne : m ≠ n := by intro h; subst h; exact hm hn
      simp [hn, hm, hne]
  · simp [hn]

/-- A roster entry is read from the roster alone. -/
theorem rosterEntry_congr {s t : State} (h : s.member.roster = t.member.roster) (n : StationNo) :
    s.rosterEntry n = t.rosterEntry n := by
  simp [State.rosterEntry, h]

end Sys2Proof.Laws
end

