-- ==== Sys2Proof/Laws/Steps.lean ====
section
/-!
SUPPORT. The outer shell of every meaning: RESET_N, channel operands, entries of tables that a command leaves alone.
-/

namespace Sys2Proof.Laws

open Sys2Proof Sys2Proof.Machine

/-- With RESET_N high an event acts. -/
theorem takes_up {s : State} (h : s.host.resetLow = false) (f : State → State) : s.takes f = .next (f s) := by
  simp [State.takes, h]

/-- With RESET_N low an event does nothing (R196). -/
theorem takes_low {s : State} (h : s.host.resetLow = true) (f : State → State) : s.takes f = .next s := by
  simp [State.takes, h]

/-- A command that `takes` wraps never stops. -/
theorem takes_completes (s : State) (f : State → State) : ∃ t, s.takes f = .next t := ⟨_, rfl⟩

/-- The operand 0-5 names its channel (R188). -/
theorem channelOperand_channel (c : ChannelNo) : channelOperand (BitVec.ofNat 3 c.val) = some c := by
  revert c; decide

/-- The operands 6 and 7 name none (R188). -/
theorem channelOperand_none {op : BitVec 3} (h : 6 ≤ op.toNat) : channelOperand op = none := by
  revert op; decide

theorem channelCommand_channel (s : State) (code : BitVec 8) (c : ChannelNo) (f : ChannelNo → State → State) :
    s.channelCommand code (BitVec.ofNat 3 c.val) f = f c s := by
  simp [State.channelCommand, channelOperand_channel]

theorem channelCommand_none (s : State) (code : BitVec 8) {op : BitVec 3} (h : 6 ≤ op.toNat)
    (f : ChannelNo → State → State) : s.channelCommand code op f = s.refuse code op .badOperand := by
  simp [State.channelCommand, channelOperand_none h]

/-- Writing back what a table holds changes nothing. -/
theorem setChannel_same (s : State) (c : ChannelNo) : s.setChannel c (s.channel c) = s := by
  have : s.channels.set c.val (s.channels.get c) c.isLt = s.channels := by
    apply Vector.ext
    intro i hi
    by_cases h : c.val = i
    · subst h; simp [Vector.get_eq_getElem]
    · simp [h]
  simp [State.setChannel, State.channel, this]

theorem modifyChannel_same (s : State) (c : ChannelNo) (f : Channel → Channel) (h : f (s.channel c) = s.channel c) :
    s.modifyChannel c f = s := by
  simp [State.modifyChannel, h, setChannel_same]

/-- Two writes of one channel are the later one. -/
theorem setChannel_setChannel (s : State) (c : ChannelNo) (x y : Channel) :
    (s.setChannel c x).setChannel c y = s.setChannel c y := by
  simp [State.setChannel]

/-- The first window that holds an address, and that there is none. -/
theorem find_window_none {v : Vector Window 8} {p : Window → Bool} (h : ∀ n : Fin 8, p (v.get n) = false) :
    v.toList.find? p = none := by
  rw [List.find?_eq_none]
  intro w hw
  obtain ⟨i, hi, rfl⟩ := List.mem_iff_getElem.mp hw
  have hi' : i < 8 := by simpa using hi
  have := h ⟨i, hi'⟩
  simp [Vector.get_eq_getElem] at this
  simpa using this

end Sys2Proof.Laws
end

