-- ==== Sys2Proof/Laws/Keeps.lean ====
section
/-!
SUPPORT. What the operations inside a step leave alone: settings, roster, station state, windows, descriptors, hold depth,
enables, refusal record, RESET_N, the written words and the queue (`SameConfiguration`), one lemma for each operation.
-/

namespace Sys2Proof.Laws

open Sys2Proof Sys2Proof.Machine Sys2Proof.Safety

/-! ## The relation -/

theorem same_refl (s : State) : SameConfiguration s s :=
  ⟨rfl, rfl, rfl, rfl, rfl, rfl, rfl, rfl, rfl, rfl, rfl, rfl, rfl, fun _ => rfl⟩

theorem same_trans {s t u : State} (h : SameConfiguration s t) (k : SameConfiguration t u) : SameConfiguration s u := by
  obtain ⟨a1, a2, a3, a4, a5, a6, a7, a8, a9, a10, a11, a12, a13, a14⟩ := h
  obtain ⟨b1, b2, b3, b4, b5, b6, b7, b8, b9, b10, b11, b12, b13, b14⟩ := k
  exact ⟨b1.trans a1, b2.trans a2, b3.trans a3, b4.trans a4, b5.trans a5, b6.trans a6, b7.trans a7, b8.trans a8,
    b9.trans a9, b10.trans a10, b11.trans a11, b12.trans a12, b13.trans a13, fun c => (b14 c).trans (a14 c)⟩

/-- An operation that keeps the configuration may be guarded. -/
theorem same_ite {s t u : State} {p : Prop} [Decidable p] (h : SameConfiguration s t) (k : SameConfiguration s u) :
    SameConfiguration s (if p then t else u) := by
  split
  · exact h
  · exact k

/-- A fold of operations that keep the configuration keeps it. -/
theorem same_foldl {α : Type} (f : State → α → State) (hf : ∀ s a, SameConfiguration s (f s a)) (l : List α) (s : State) :
    SameConfiguration s (l.foldl f s) := by
  induction l generalizing s with
  | nil => exact same_refl s
  | cons a l ih => exact same_trans (hf s a) (ih (f s a))

/-! ## Flags, tables, counters -/

variable (s : State)

theorem raise_same (f : EventFlag) : SameConfiguration s (s.raise f) := same_refl s

theorem raiseIf_same (p : Bool) (f : EventFlag) : SameConfiguration s (s.raiseIf p f) :=
  same_ite (raise_same s f) (same_refl s)

theorem setChannel_same_config (c : ChannelNo) (x : Channel) (h : x.desc = (s.channel c).desc) :
    SameConfiguration s (s.setChannel c x) := by
  refine ⟨rfl, rfl, rfl, rfl, rfl, rfl, rfl, rfl, rfl, rfl, rfl, rfl, rfl, fun d => ?_⟩
  rw [channel_setChannel]
  split
  · next e => rw [h, e]
  · rfl

theorem modifyChannel_same_config (c : ChannelNo) (f : Channel → Channel) (h : ∀ x, (f x).desc = x.desc) :
    SameConfiguration s (s.modifyChannel c f) := setChannel_same_config s c _ (h _)

theorem setEntry_same (t : Tag) (e : Entry) : SameConfiguration s (s.setEntry t e) := same_refl s
theorem dequeueTag_same (t : Tag) : SameConfiguration s (s.dequeueTag t) := same_refl s
theorem queueEntry_same (t : Tag) (e : Entry) : SameConfiguration s (s.queueEntry t e) := same_refl s
theorem countStale_same : SameConfiguration s s.countStale := same_refl s
theorem countDropped_same : SameConfiguration s s.countDropped := same_refl s
theorem setSlot_same (x : Slot) : SameConfiguration s (s.setSlot x) := same_refl s
theorem setEngine_same (e : Engine) : SameConfiguration s (s.setEngine e) := same_refl s
theorem placeResponse_same (r : Response) : SameConfiguration s (s.placeResponse r) := same_refl s
theorem popBuffer_same : SameConfiguration s s.popBuffer := same_refl s
theorem headDone_same : SameConfiguration s s.headDone := same_refl s
theorem appendNotice_same (src : StationNo) (c : BitVec 16) : SameConfiguration s (s.appendNotice src c) := same_refl s
theorem appendControl_same (k : ControlKind) : SameConfiguration s (s.appendControl k) := same_refl s
theorem endDrain_same : SameConfiguration s s.endDrain := same_refl s

/-! ## The port and the link -/

theorem requestLanding_same (r : BurstRequest) : SameConfiguration s (s.requestLanding r) := same_refl s
theorem requestService_same (r : BurstRequest) : SameConfiguration s (s.requestService r) := same_refl s
theorem requestFetch_same (c : ChannelNo) (r : BurstRequest) : SameConfiguration s (s.requestFetch c r) := same_refl s
theorem withdrawLanding_same : SameConfiguration s s.withdrawLanding := same_refl s
theorem withdrawFetch_same (c : ChannelNo) : SameConfiguration s (s.withdrawFetch c) := same_refl s
theorem stopDriving_same : SameConfiguration s s.stopDriving := same_refl s
theorem rxSkip_same : SameConfiguration s s.rxSkip := same_ite (same_refl s) (same_refl s)

theorem afterSend_same (f : FrameRef) : SameConfiguration s (s.afterSend f) := by
  unfold State.afterSend
  cases f with
  | entry t => dsimp only; (repeat' split) <;> exact same_refl s
  | response => exact same_refl s
  | dataSlot => exact same_refl s
  | control => exact same_refl s

theorem cutShort_same (f : FrameRef) : SameConfiguration s (s.cutShort f) :=
  same_trans (same_trans (afterSend_same s f) (stopDriving_same _)) (rxSkip_same _)

theorem letGo_same (f : FrameRef) : SameConfiguration s (s.letGo f) := by
  unfold State.letGo
  split
  · exact same_refl s
  · exact same_ite (stopDriving_same s) (same_refl s)
  · exact same_ite (cutShort_same s f) (same_refl s)

/-! ## The tracker -/

theorem endLanding_same (t : Tag) : SameConfiguration s (s.endLanding t) := same_ite (same_refl s) (same_refl s)

theorem dropFetch_same (e : Entry) : SameConfiguration s (s.dropFetch e) := by
  unfold State.dropFetch
  split
  · exact same_trans (withdrawFetch_same s _) (modifyChannel_same_config _ _ _ fun _ => rfl)
  · exact same_refl s

theorem freeQueued_same (t : Tag) : SameConfiguration s (s.freeQueued t) :=
  same_trans (same_trans (letGo_same s _) (dropFetch_same _ _)) (same_refl _)

theorem releaseEntry_same (t : Tag) : SameConfiguration s (s.releaseEntry t) := by
  unfold State.releaseEntry
  split
  · exact freeQueued_same s t
  · exact same_trans (endLanding_same s t) (setEntry_same _ _ _)
  · exact same_refl s

theorem quarantineEntry_same (t : Tag) : SameConfiguration s (s.quarantineEntry t) :=
  same_trans (endLanding_same s t) (setEntry_same _ _ _)

theorem freeEntry_same (t : Tag) : SameConfiguration s (s.freeEntry t) := same_refl s

theorem releaseOwner_same (o : Owner) : SameConfiguration s (s.releaseOwner o) :=
  same_foldl _ (fun s t => same_ite (releaseEntry_same s t) (same_refl s)) _ s

/-! ## Channels and slot -/

theorem endChannel_same (c : ChannelNo) (k : TermCode) (r : Option RefuseReason) :
    SameConfiguration s (s.endChannel c k r) := by
  unfold State.endChannel
  refine same_trans ?_ (raiseIf_same _ _ _)
  exact same_trans (releaseOwner_same s _) (modifyChannel_same_config _ c _ fun _ => rfl)

theorem normalEnd_same (c : ChannelNo) : SameConfiguration s (s.normalEnd c) := by
  unfold State.normalEnd
  refine same_trans ?_ (raiseIf_same _ _ _)
  refine modifyChannel_same_config s c _ fun x => ?_
  split <;> rfl

theorem transferEnd_same (c : ChannelNo) : SameConfiguration s (s.transferEnd c) :=
  same_ite (same_ite (modifyChannel_same_config s c _ fun _ => rfl) (normalEnd_same s c)) (same_refl s)

theorem advance_desc (ch : Channel) : ch.advance.desc = ch.desc := by
  unfold Channel.advance
  dsimp only
  split <;> rfl

theorem completeSegment_same (c : ChannelNo) (t : Tag) : SameConfiguration s (s.completeSegment c t) := by
  unfold State.completeSegment
  refine same_trans ?_ (transferEnd_same _ c)
  exact modifyChannel_same_config s c _ fun _ => advance_desc _

theorem failSegment_same (c : ChannelNo) (t : Tag) (r : SegRecord) (k : TermCode) :
    SameConfiguration s (s.failSegment c t r k) :=
  same_ite (modifyChannel_same_config s c _ fun _ => rfl) (endChannel_same s c _ _)

theorem busySegment_same (c : ChannelNo) (t : Tag) (r : SegRecord) : SameConfiguration s (s.busySegment c t r) :=
  same_ite (modifyChannel_same_config s c _ fun _ => rfl) (endChannel_same s c _ _)

theorem segmentResult_same (c : ChannelNo) (t : Tag) (r : SegRecord) (x : Result) :
    SameConfiguration s (s.segmentResult c t r x) := by
  unfold State.segmentResult
  split
  · exact completeSegment_same s c t
  · exact failSegment_same s c t r _
  · exact failSegment_same s c t r _
  · exact busySegment_same s c t r
  · exact endChannel_same s c _ _
  · exact endChannel_same s c _ _
  · exact endChannel_same s c _ _

theorem setNotice_same (c : ChannelNo) (n : NoticeRecord) : SameConfiguration s (s.setNotice c n) :=
  modifyChannel_same_config s c _ fun _ => rfl

theorem busyNotice_same (c : ChannelNo) (n : NoticeRecord) (r : RefuseReason) : SameConfiguration s (s.busyNotice c n r) :=
  same_ite (setNotice_same s c _) (endChannel_same s c _ _)

theorem noticeResult_same (c : ChannelNo) (n : NoticeRecord) (x : Result) : SameConfiguration s (s.noticeResult c n x) := by
  unfold State.noticeResult
  split
  · exact normalEnd_same s c
  · exact same_ite (setNotice_same s c _) (endChannel_same s c _ _)
  · exact busyNotice_same s c n _
  · exact busyNotice_same s c n _
  · exact endChannel_same s c _ _
  · exact endChannel_same s c _ _
  · exact same_refl s
  · exact same_refl s

theorem channelResult_same (c : ChannelNo) (t : Tag) (x : Result) : SameConfiguration s (s.channelResult c t x) := by
  unfold State.channelResult
  dsimp only
  split
  · exact same_ite (noticeResult_same s c _ x) (same_refl s)
  · split
    · exact segmentResult_same s c t _ x
    · exact same_refl s

theorem finishSlot_same (x : SlotResult) (r : Option RefuseReason) : SameConfiguration s (s.finishSlot x r) := same_refl s

theorem busySlot_same (r : RefuseReason) : SameConfiguration s (s.busySlot r) := same_ite (same_refl s) (same_refl s)

theorem slotResult_same (t : Tag) (x : Result) : SameConfiguration s (s.slotResult t x) := by
  unfold State.slotResult
  dsimp only
  split
  · split
    · exact finishSlot_same s _ _
    · exact busySlot_same s _
    · exact busySlot_same s _
    · exact finishSlot_same s _ _
    · exact same_ite (setSlot_same s _) (same_refl s)
    · exact finishSlot_same s _ _
    · exact same_refl s
    · exact same_refl s
  · exact same_refl s

/-- A result changes channels, slot, tracker, link, port and flags, and no configuration. -/
theorem report_same (o : Owner) (t : Tag) (x : Result) : SameConfiguration s (s.report o t x) := by
  cases o with
  | channel c => exact channelResult_same s c t x
  | host => exact slotResult_same s t x

/-! ## Starts, asks and allocations -/

theorem trigger_same (c : ChannelNo) : SameConfiguration s (s.trigger c) := by
  unfold State.trigger
  dsimp only
  split
  · exact same_refl s
  · refine same_ite (same_trans ?_ (raise_same _ _)) (modifyChannel_same_config s c _ fun _ => rfl)
    exact modifyChannel_same_config s c _ fun _ => rfl
  all_goals
    refine same_trans ?_ (raise_same _ _)
    exact modifyChannel_same_config s c _ fun _ => rfl

theorem startIfDue_same (c : ChannelNo) : SameConfiguration s (s.startIfDue c) :=
  same_ite (modifyChannel_same_config s c _ fun _ => rfl) (same_refl s)

theorem askChannel_same (c : ChannelNo) : SameConfiguration s (s.askChannel c) :=
  same_ite (modifyChannel_same_config s c _ fun x => by split <;> rfl) (modifyChannel_same_config s c _ fun _ => rfl)

theorem issueSegment_same (c : ChannelNo) (t : Tag) (r : SegRecord) : SameConfiguration s (s.issueSegment c t r) := by
  unfold State.issueSegment
  dsimp only
  split
  · refine same_trans ?_ (queueEntry_same _ _ _)
    exact modifyChannel_same_config s c _ fun _ => rfl
  · refine same_trans (same_trans ?_ (queueEntry_same _ _ _)) (requestFetch_same _ _ _)
    exact modifyChannel_same_config s c _ fun _ => rfl

theorem issueNotice_same (c : ChannelNo) (t : Tag) (n : NoticeRecord) : SameConfiguration s (s.issueNotice c t n) := by
  unfold State.issueNotice
  refine same_trans ?_ (queueEntry_same _ _ _)
  exact modifyChannel_same_config s c _ fun _ => rfl

theorem dropOwner_same (o : Owner) : SameConfiguration s (s.dropOwner o) := by
  cases o with
  | channel c => exact endChannel_same s c _ _
  | host => exact same_refl s

theorem offerChannel_same (c : ChannelNo) (t : Tag) : SameConfiguration s (s.offerChannel c t) := by
  unfold State.offerChannel
  dsimp only
  split
  · split
    · exact same_ite (issueNotice_same s c t _) (dropOwner_same s _)
    · exact same_refl s
  · split
    · exact same_ite (issueSegment_same s c t _) (dropOwner_same s _)
    · exact same_refl s

theorem offerSlot_same (t : Tag) : SameConfiguration s (s.offerSlot t) := same_ite (same_refl s) (same_refl s)

theorem grantTag_same (o : Owner) : SameConfiguration s (s.grantTag o) := by
  unfold State.grantTag
  split
  · exact same_refl s
  · split
    · split
      · exact offerChannel_same s _ _
      · exact offerSlot_same s _
    · exact same_refl s

theorem allocateTags_same : SameConfiguration s s.allocateTags := same_foldl _ (fun s o => grantTag_same s o) _ s

theorem startChannels_same : SameConfiguration s s.startChannels := same_foldl _ (fun s c => startIfDue_same s c) _ s

theorem dropUnusable_same : SameConfiguration s s.dropUnusable := same_foldl _ (fun s o => dropOwner_same s o) _ s

theorem askOwners_same : SameConfiguration s s.askOwners :=
  same_trans (same_foldl _ (fun s c => askChannel_same s c) _ s) (dropUnusable_same _)

/-! ## Inbound service, notices, dispatch -/

theorem placeOrDrop_same (r : Response) : SameConfiguration s (s.placeOrDrop r) := same_ite (same_refl s) (same_refl s)

theorem requestArrives_same (src : StationNo) (t : Tag) (w : Bool) (a : BitVec 24) (l : BitVec 16) (p : List Byte) :
    SameConfiguration s (s.requestArrives src t w a l p) := by
  unfold State.requestArrives
  split
  · exact placeOrDrop_same s _
  · exact same_refl s

theorem engineTake_same : SameConfiguration s s.engineTake := by
  unfold State.engineTake
  split
  · exact same_ite (same_refl s) (same_refl s)
  · exact same_refl s

theorem engineAnswer_same (a : Response) : SameConfiguration s (s.engineAnswer a) := same_ite (same_refl s) (same_refl s)

theorem placeHeldAnswer_same : SameConfiguration s s.placeHeldAnswer := by
  unfold State.placeHeldAnswer
  split
  · exact engineAnswer_same s _
  · exact same_refl s

theorem noticeArrives_same (src : StationNo) (t : Tag) (code : BitVec 16) :
    SameConfiguration s (s.noticeArrives src t code) := by
  unfold State.noticeArrives
  split
  · exact placeOrDrop_same s _
  · split
    · exact countDropped_same s
    · split
      · refine same_trans ?_ (placeResponse_same _ _)
        exact modifyChannel_same_config s _ _ fun _ => rfl
      · exact same_ite (same_refl s) (same_refl s)

theorem finalAnswer_same (t : Tag) (x : Result) : SameConfiguration s (s.finalAnswer t x) :=
  same_trans (freeEntry_same s t) (report_same _ _ _ _)

theorem answerArrives_same (src : StationNo) (t : Tag) (b : FrameBody) (x : Result) :
    SameConfiguration s (s.answerArrives src t b x) :=
  same_ite (same_ite (finalAnswer_same s t x) (freeEntry_same s t)) (countStale_same s)

theorem readDataArrives_same (src : StationNo) (t : Tag) (last : Bool) (place : BitVec 6) (p : List Byte) :
    SameConfiguration s (s.readDataArrives src t last place p) := by
  unfold State.readDataArrives
  dsimp only
  split
  · split
    · split
      · exact same_trans (same_trans (popBuffer_same s) (quarantineEntry_same _ t)) (report_same _ _ _ _)
      · exact same_refl s
    · exact same_ite (same_refl s) (same_refl s)
  · exact same_refl s

/-- A dispatch changes no configuration. -/
theorem dispatchHead_same : SameConfiguration s s.dispatchHead := by
  unfold State.dispatchHead
  split
  · exact same_refl s
  · split
    · exact same_trans (popBuffer_same s) (requestArrives_same _ _ _ _ _ _ _)
    · exact same_trans (popBuffer_same s) (requestArrives_same _ _ _ _ _ _ _)
    · exact same_trans (popBuffer_same s) (noticeArrives_same _ _ _ _)
    · exact readDataArrives_same s _ _ _ _ _
    · exact same_trans (popBuffer_same s) (answerArrives_same _ _ _ _ _)
    · exact same_trans (popBuffer_same s) (answerArrives_same _ _ _ _ _)
    all_goals exact popBuffer_same s

theorem settleOnce_same : SameConfiguration s s.settleOnce :=
  same_trans (startChannels_same s) (engineTake_same _)

theorem orderFetches_same (old : List (ChannelNo × BurstRequest)) : SameConfiguration s (s.orderFetches old) := same_refl s

theorem checkDrain_same : SameConfiguration s s.checkDrain := same_ite (endDrain_same s) (same_refl s)

theorem settleTags_same : SameConfiguration s s.settleTags := same_trans (allocateTags_same s) (checkDrain_same _)

end Sys2Proof.Laws
end

