-- ==== Sys2Proof/Laws/Settle.lean ====
section
/-!
SUPPORT. The order of the fetch list within a step (R170), and the current remote address short of the top (R33).
-/

namespace Sys2Proof.Laws

open Sys2Proof Sys2Proof.Machine

/-! ## The order of the fetches -/

variable (s : State) (old l : List (ChannelNo × BurstRequest))

@[simp] theorem orderFetches_channels : (s.orderFetches old).channels = s.channels := rfl
@[simp] theorem orderFetches_holdDepth : (s.orderFetches old).holdDepth = s.holdDepth := rfl
@[simp] theorem orderFetches_tracker : (s.orderFetches old).tracker = s.tracker := rfl
@[simp] theorem orderFetches_inbound : (s.orderFetches old).inbound = s.inbound := rfl
@[simp] theorem orderFetches_notices : (s.orderFetches old).notices = s.notices := rfl
@[simp] theorem orderFetches_member : (s.orderFetches old).member = s.member := rfl
@[simp] theorem orderFetches_link : (s.orderFetches old).link = s.link := rfl
@[simp] theorem orderFetches_rx : (s.orderFetches old).rx = s.rx := rfl
@[simp] theorem orderFetches_host : (s.orderFetches old).host = s.host := rfl
@[simp] theorem orderFetches_ramWrites : (s.orderFetches old).ramWrites = s.ramWrites := rfl
@[simp] theorem orderFetches_pending : (s.orderFetches old).pending = s.pending := rfl
@[simp] theorem orderFetches_portState : (s.orderFetches old).port.state = s.port.state := rfl
@[simp] theorem orderFetches_landing : (s.orderFetches old).port.landing = s.port.landing := rfl
@[simp] theorem orderFetches_service : (s.orderFetches old).port.service = s.port.service := rfl
@[simp] theorem orderFetches_fetches : (s.orderFetches old).port.fetches = orderFetches old s.port.fetches := rfl

/-- Ordering neither loses nor makes a fetch. -/
@[simp] theorem mem_orderFetches (x : ChannelNo × BurstRequest) : x ∈ orderFetches old l ↔ x ∈ l := by
  simp only [orderFetches, List.mem_append, List.mem_filter, List.mem_flatMap, decide_eq_true_eq]
  constructor
  · rintro (⟨h, -⟩ | ⟨c, -, ⟨h, -⟩, -⟩) <;> exact h
  · intro h
    by_cases k : old.contains x = true
    · exact .inl ⟨h, k⟩
    · exact .inr ⟨x.1, mem_allChannels x.1, ⟨h, by simpa using k⟩, rfl⟩

/-- A step that makes no fetch leaves the list as it is. -/
theorem orderFetches_of_subset (h : ∀ x ∈ l, x ∈ old) : orderFetches old l = l := by
  have kept : (l.filter fun x => old.contains x) = l := List.filter_eq_self.2 fun x hx => by simpa using h x hx
  have made : (l.filter fun x => !old.contains x) = [] := List.filter_eq_nil_iff.2 fun x hx => by simpa using h x hx
  simp only [orderFetches, kept, made]
  simp

@[simp] theorem orderFetches_self : s.orderFetches s.port.fetches = s := by
  simp [State.orderFetches, orderFetches_of_subset]

/-! ## The current remote address -/

/-- Below the top of the remote space the current remote address is the descriptor's plus the front (R33). -/
theorem remoteAfter_of_lt (d : Descriptor) (front : Nat) (h : d.remote.toNat + front < 0x1000000) :
    d.remoteAfter front = d.remote + BitVec.ofNat 24 front :=
  if_pos h

end Sys2Proof.Laws
end

