-- ==== Sys2Proof/Machine/Views.lean ====
section
/-!
DEFINITION. What the board and the pair see of the station: the signals it drives, as views of the state (R139, R141, R152,
R171, R174, R182).
-/

namespace Sys2Proof.Machine

open Sys2Proof

/-- LM_REQ_N is asserted: the port asks for or holds the local bus (R171). -/
def State.lmRequest (s : State) : Bool :=
  match s.port.state with
  | .free => false
  | .requesting | .burst _ => true

/-- The word transfer the port drives: of the burst in progress, or the one a reset let finish (R174, R182). -/
def State.lmTransfer (s : State) : Option WordTransfer :=
  match s.port.state with
  | .burst b => some b.current
  | _ => s.port.tail

/-- What the station drives on the pair after the start bit: the claim value while CLAIMING (R139). -/
def State.claimDriven (s : State) : Option (BitVec 7) :=
  match s.link.unit with
  | .claiming f => some (s.claimOf f)
  | _ => none

/-- The bytes of the frame the station sends, frame check included, while SENDING (R141, R154). -/
def State.bytesDriven (s : State) : Option (List Byte) :=
  match s.link.unit with
  | .sending f => (s.frameOf f).map Frame.bytes
  | _ => none

/-- Bits a transmission of `b` bytes drives: start bit, claim field, and 9 bits a byte (R152). -/
def transmissionBits (b : Nat) : Nat := 8 + 9 * b

/-- One byte on the pair: its bits most significant first, then the dominant fill bit (R152). A one is dominant (R130). -/
def byteOnPair (x : Byte) : List Bool := [7, 6, 5, 4, 3, 2, 1, 0].map x.getLsbD ++ [true]

/-- A whole transmission on the pair (R152). -/
def transmission (claim : BitVec 7) (bytes : List Byte) : List Bool :=
  true :: ([6, 5, 4, 3, 2, 1, 0].map claim.getLsbD ++ bytes.flatMap byteOnPair)

end Sys2Proof.Machine
end

