-- ==== Sys2Proof/Tests/Slice0.lean ====
section
/-!
SUPPORT. Tests: ill-formed terms that WellFormed refuses, encodings written out from 07 and 09, one step of each command with
the outcome its rule gives, and for each statement with hypotheses a state and operands that meet them (`witness_…`, named
after the statement).
-/

set_option Elab.async false

namespace Sys2Proof.Tests

open Sys2Proof Sys2Proof.Machine Sys2Proof.Safety

/-! ## States -/

/-- The state a command answers; the state itself where it stops. -/
def after (i : Instr) (s : State) : State :=
  match exec i s with
  | .next t => t
  | .fault _ | .refused _ => s

/-- The command answers a next state. -/
def completes (i : Instr) (s : State) : Bool :=
  match exec i s with
  | .next _ => true
  | .fault _ | .refused _ => false

/-- Station 5, out of reset, OFFLINE. -/
def up : State := { State.reset with member := { number := 5 }, host := { resetLow := false } }

def inState (st : StationState) (s : State) : State := { s with member := { s.member with state := st } }

/-- Station 5 ONLINE with station 9 PRESENT. -/
def joined : State := (inState .online up).setRoster 9 { presence := .present 0 }

/-- The descriptor of the 640-byte PULL (10). -/
def pull : Descriptor :=
  { peer := 9, remote := 0x001200, localAddr := 0x20004000, length := 640, segSize := 256, depthCode := 1, retryLimit := 2
    endIrq := true, errIrq := true }

def push : Descriptor := { pull with direction := .push, segSize := 64 }

/-- The channel with a descriptor and a state. -/
def channelIn (c : ChannelNo) (st : ChannelState) (d : Descriptor) (s : State) : State :=
  s.setChannel c { desc := d, state := st, remaining := d.length.toNat, curRemote := d.remote, curLocal := d.localAddr }

/-- CH0 RUNNING in the middle of the PULL: segment 0 OUTSTANDING with tag 3, LIVE. -/
def pulling : State :=
  let s := channelIn 0 .running pull joined
  let s := s.setChannel 0 { s.channel 0 with
    cutOffset := 256, records := [{ state := .outstanding 3, offset := 0, length := 256 }] }
  s.setEntry 3 { state := .live, kind := .read, owner := .channel 0, peer := 9, remote := 0x001200, length := 256
                 localAddr := 0x20004000, deadline := some 1024 }

/-- CH0's segment is QUEUED under tag 3. -/
def queued : State :=
  let s := pulling.setEntry 3 { pulling.entry 3 with state := .queued, deadline := none }
  { s with tracker := { s.tracker with queued := [3] } }

/-- A host notice QUEUED or LIVE under tag 7. -/
def hostNotice (st : EntryState) : State :=
  let s := joined.setEntry 7 { state := st, kind := .notice, owner := .host, peer := 9 }
  s.setSlot { peer := 9, code := 0x0B20, state := .sending (.tagged 7) }

/-- The Receive Buffer holds one frame. -/
def received (f : Frame) (s : State) : State := { s with rx := { s.rx with buffer := [f] } }

/-- The unit sends a frame, which its own receiver frames. -/
def sending (f : FrameRef) (s : State) : State :=
  { s with link := { s.link with unit := .sending f }, rx := { s.rx with state := .framing, ownMark := true } }

/-- A transmission is being framed. -/
def framing (s : State) : State := { s with rx := { s.rx with state := .framing, inProgress := some {} } }

/-- W0 at 001000H, 1000H bytes, READ_WRITE, for every station. -/
def windowed (s : State) : State :=
  let w : Window :=
    { enable := true, base := 0x001000, size := 0x1000, localBase := 0x20010000, access := 2, sources := 0x7FFFFFFF }
  { s with inbound := { s.inbound with windows := s.inbound.windows.set 0 w } }

def inRead (len : Nat) : InRequest :=
  { src := 9, tag := 1, write := false, remote := 0x001000, length := len, localAddr := 0x20010000, payload := [] }

def inWrite : InRequest :=
  { src := 9, tag := 2, write := true, remote := 0x001000, length := 4, localAddr := 0x20010000, payload := [1, 2, 3, 4] }

def inBurst (b : Burst) (s : State) : State := { s with port := { s.port with state := .burst b } }

def fullResponses : List Response := List.replicate 8 { dest := 9, tag := 0, answer := .ack }

/-! ## WellFormed refuses ill-formed terms -/

theorem test_known_code_is_no_unknown_command : Instr.wellFormed (.unknownCommandCode 0x15 0) = false := by decide

theorem test_unknown_code_is_well_formed : Instr.wellFormed (.unknownCommandCode 0x09 0) = true := by decide

/-- HN_SEND, offset 038H, is writable. -/
theorem test_writable_offset_is_no_other_register : Instr.wellFormed (.otherRegisterWrite 0x0E 0) = false := by decide

/-- STN_STATUS, offset 004H, is read-only. -/
theorem test_read_only_offset_is_other_register : Instr.wellFormed (.otherRegisterWrite 0x01 0) = true := by decide

/-- The size byte names 6 bytes and 7 are given. -/
theorem test_frame_longer_than_its_size : Instr.wellFormed (.frameJudged 0 [31, 9, 0x42, 6, 0, 0, 0]) = false := by decide

/-- The receiver stops at a size outside 6-76. -/
theorem test_frame_past_a_bad_size : Instr.wellFormed (.frameJudged 0 [31, 9, 0x42, 5, 0]) = false := by decide

/-! ## Encodings -/

/-- No row of the table has bits. -/
theorem test_no_word_spells_a_command : decodeTableWord 32 0x00000001 = none := by decide

theorem test_withFetchWord_changes_nothing : State.reset.withFetchWord 32 1 = State.reset := rfl

/-- R156's check of the ASCII bytes 123456789 is 29B1H. -/
theorem test_frame_check : frameCheck [0x31, 0x32, 0x33, 0x34, 0x35, 0x36, 0x37, 0x38, 0x39] = 0x29B1 := by decide +kernel

/-- COMMAND holds the code in bits 7-0 and the operand in bits 10-8: 211H is CH_START of CH2, 301H is JOIN, whatever the bits
above; code 20H is of no command. -/
theorem test_command_word : commandOfWord 0x00000211#32 = .chStart 2 ∧ commandOfWord 0xFFFFF814#32 = .chAbort 0 ∧
    commandOfWord 0x00000301#32 = .join 3 ∧ commandOfWord 0x00000720#32 = .unknownCommandCode 0x20 7 := by decide

/-- CH5's last descriptor word is at offset 1BCH, W7's first at 0F0H, EVT_ENABLE at 018H (09, register map). -/
theorem test_register_write : registerWrite 0x6F 7 = .descriptorWrite 5 7 7 ∧ registerWrite 0x3C 7 = .windowTableWrite 7 0 7 ∧
    registerWrite 0x06 7 = .evtEnableWrite 7 ∧ registerWrite 0x70 7 = .otherRegisterWrite 0x70 7 := by decide

/-- The layout of R154: destination 9, source 5, READ_REQ, 12 bytes, tag 3, 001300H, 256, check. -/
theorem test_read_req_layout : (Frame.bytesBeforeCheck ⟨9, 5, .readReq 3 0x001300 256⟩) =
    [0x09, 0x05, 0x11, 0x0C, 0x03, 0x00, 0x13, 0x00, 0x01, 0x00] := by decide

/-- READ_DATA, last flag in bit 7 and the offset by 4 in bits 5-0: offset 192 is 30H. -/
theorem test_read_data_layout : (Frame.bytesBeforeCheck ⟨5, 9, .readData 1 true 0x30 [1, 2, 3, 4]⟩) =
    [0x05, 0x09, 0x31, 0x0C, 0x01, 0xB0, 1, 2, 3, 4] := by decide

/-- The claim values of R139: an answer of 30 is 126, a request of 5 is 5. -/
theorem test_claim_values : claimValue 3 30 = 126 ∧ claimValue 0 5 = 5 := by decide

theorem test_announce_is_judged_valid :
    judgeFrame (claimValue 2 9) (Frame.bytes ⟨31, 9, .announce⟩) = some ⟨31, 9, .announce⟩ := by decide +kernel

/-- ANNOUNCE addressed to one station is bad. -/
theorem test_announce_to_one_station_is_bad :
    judgeFrame (claimValue 2 9) (Frame.bytes ⟨5, 9, .announce⟩) = none := by decide +kernel

/-- A heard claim value of another source is bad. -/
theorem test_claim_must_fit_the_frame :
    judgeFrame (claimValue 2 8) (Frame.bytes ⟨31, 9, .announce⟩) = none := by decide +kernel

/-- Descriptor word 0 (09): PUSH, end interrupt, depth 2, retry limit 2. -/
theorem test_descriptor_word_0 :
    (Descriptor.writeWord {} 0 0x00021041#32).direction = .push ∧ (Descriptor.writeWord {} 0 0x00021041#32).endIrq = true ∧
      (Descriptor.writeWord {} 0 0x00021041#32).depth = 2 ∧ (Descriptor.writeWord {} 0 0x00021041#32).retryLimit = 2 := by
  decide

/-- The word of the bytes at A to A + 3 has the byte of A on D7-D0 (R176). -/
theorem test_word_lanes : wordsOfBytes [0x11, 0x22, 0x33, 0x44] = [0x44332211#32] := by decide

/-! ## One step of each command -/

/-- JOIN starts a listen period of 40 ms (R108). -/
theorem test_join : (after (.join 0) up).member.state = .listening ∧ (after (.join 0) up).member.listen = some 40000 := by
  decide +kernel

/-- LEAVE with nothing in flight: the drain ends in its step, LEAVE behind HELLO (R112). -/
theorem test_leave_when_quiet : (after (.leave 0) joined).member.control =
    [{ kind := .hello .leaving false }, { kind := .leave }] := by decide +kernel

/-- LEAVE with a LIVE entry: the drain limit of 4,096 µs runs (10). -/
theorem test_leave_with_work : (after (.leave 0) pulling).member.drain = some 4096 := by decide +kernel

theorem test_station_reset_keeps_descriptor : ((after (.stationReset 0) pulling).channel 0).desc = pull ∧
    ((after (.stationReset 0) pulling).channel 0).state = .off := by decide +kernel

theorem test_hold_up_at_limit : (after (.holdUp 0) { up with holdDepth := 15 }).host.refusal =
    { kind := .command, code := 4, reason := .holdLimit } := by decide +kernel

/-- The last HOLD_DOWN starts a channel that waits with its trigger latched, and its segment is QUEUED (R7, R10, R36). -/
theorem test_hold_down_starts :
    let s := channelIn 0 .armed pull joined
    let t := after (.holdDown 0) { s.setChannel 0 { s.channel 0 with latch := true } with holdDepth := 1 }
    (t.channel 0).state = .running ∧ (t.entry 0).state = .queued ∧ (t.channel 0).cutOffset = 256 := by decide +kernel

/-- SEND_NOTICE takes the lowest FREE tag (R36, R98). -/
theorem test_send_notice : (after (.sendNotice 0) (joined.setSlot { peer := 9 })).notices.slot.state = .sending (.tagged 0) := by
  decide +kernel

theorem test_pop_notice_empty : (after (.popNotice 0) up).host.refusal.reason = .queueEmpty := by decide +kernel

theorem test_clear_counters : (after (.clearCounters 7) { up with rx := { up.rx with stale := 9, dropped := 3 } }).rx.stale = 0 := by
  decide +kernel

/-- A local address that is no multiple of 4 (R2). -/
theorem test_ch_enable_bad_descriptor :
    let t := after (.chEnable 0) (channelIn 0 .off { pull with localAddr := 2 } joined)
    (t.channel 0).code = .badDescriptor ∧ (t.channel 0).state = .off ∧ t.host.refusal.reason = .descriptorInvalid := by
  decide +kernel

theorem test_ch_enable : ((after (.chEnable 0) (channelIn 0 .off pull joined)).channel 0).state = .armed := by decide +kernel

/-- CH_START in ARMED starts at once; tag 0 is a READ of 001200H for 256 bytes (10). -/
theorem test_ch_start : (after (.chStart 0) (channelIn 0 .armed pull joined)).entry 0 =
    { state := .queued, kind := .read, owner := .channel 0, peer := 9, remote := 0x001200, length := 256
      localAddr := 0x20004000 } := by decide +kernel

theorem test_ch_start_lost : (after (.chStart 0) pulling).flag .overrun = true := by decide +kernel

theorem test_ch_pause : ((after (.chPause 0) pulling).channel 0).state = .paused := by decide +kernel

/-- Depth 2 lets a resumed channel cut segment 1 (R9, R14). -/
theorem test_ch_resume :
    let t := after (.chResume 0) (pulling.setChannel 0 { pulling.channel 0 with state := .paused, pause := true })
    (t.channel 0).state = .running ∧ (t.entry 0).remote = 0x001300 := by decide +kernel

/-- CH_ABORT leaves the LIVE entry ABANDONED with its deadline (R23, R47). -/
theorem test_ch_abort : ((after (.chAbort 0) pulling).entry 3).state = .abandoned ∧
    ((after (.chAbort 0) pulling).entry 3).deadline = some 1024 ∧ (after (.chAbort 0) pulling).flag (.chErr 0) = true := by
  decide +kernel

theorem test_ch_disable : ((after (.chDisable 2) (channelIn 2 .armed pull joined)).channel 2).state = .off := by decide +kernel

theorem test_unknown_code : (after (.unknownCommandCode 0x20 3) up).host.refusal =
    { kind := .command, code := 0x20, operand := 3, reason := .badOperand } := by decide +kernel

theorem test_stn_number_locked : (after (.stnNumberWrite 7) joined).host.refusal.kind = .registerWrite := by decide +kernel

/-- A word with every bit set: the number keeps 5 bits (R185). -/
theorem test_stn_number : (after (.stnNumberWrite 0xFFFFFFFF#32) up).readRegister 0 = 0x1F#32 := by decide +kernel

theorem test_timing : (after (.timingWrite 0x00FF0FFF#32) up).readRegister 2 = 0x00FF0FFF#32 := by decide +kernel

/-- Bits 1-0 of a window's size do not exist (R185). -/
theorem test_window_write : (after (.windowTableWrite 7 1 0xFFFFFFFF#32) up).readRegister 0x3D = 0x01FFFFFC#32 := by
  decide +kernel

/-- CH5's descriptor word 0 at offset 1A0H. -/
theorem test_descriptor_write : (after (.descriptorWrite 5 0 0xFFFFFFFF#32) up).readRegister 0x68 = 0x000733FF#32 := by
  decide +kernel

theorem test_hn_send : (after (.hnSendWrite 0x0B200002#32) up).readRegister 0x0E = 0x0B200002#32 := by decide +kernel

theorem test_evt_flags : (after (.evtFlagsWrite 0x00010000#32) (up.raise .stationState)).flag .stationState = false := by
  decide +kernel

theorem test_evt_enable_asserts_irq : (after (.evtEnableWrite 0x00010000#32) (up.raise .stationState)).irqAsserted = true := by
  decide +kernel

theorem test_roster_change : ((after (.rosterChangeWrite 0x00000200#32) (up.setRoster 9 { changed := true })).rosterEntry 9).changed =
    false := by decide +kernel

theorem test_other_register_write : after (.otherRegisterWrite 0x01 0xFF#32) joined = joined := rfl

theorem test_hardware_reset : (after .hardwareReset pulling).host.resetLow = true ∧
    ((after .hardwareReset pulling).channel 0).desc = {} := by decide +kernel

theorem test_reset_release : (after (.resetRelease 9) State.reset).member.number = 9 := by decide +kernel

/-- One edge of TRIG1 latches CH3 and overruns CH4 (R4 to R6). -/
theorem test_trigger_edge :
    let d : Descriptor := { pull with triggerSource := .line1 }
    let t := after (.triggerEdge 1) (channelIn 4 .paused d (channelIn 3 .armed d up))
    (t.channel 3).latch = true ∧ (t.channel 4).overrun = true ∧ t.flag .overrun = true := by decide +kernel

theorem test_channel_start :
    let s := channelIn 0 .armed pull joined
    ((after (.channelStart 0) (s.setChannel 0 { s.channel 0 with latch := true })).channel 0).state = .running := by decide +kernel

/-- A PUSH segment asks for its 16 words (R16). -/
theorem test_segment_issue_push : (after (.segmentIssue 0) (channelIn 0 .running push joined)).port.fetches =
    [(0, { dir := .read, mode := .increment, first := 0x20004000, count := 16 })] := by decide +kernel

/-- A record in BACKOFF with its timer expired stops cutting, though its expiry has not been taken (R11). -/
theorem test_expired_backoff_stops_cutting :
    let s := channelIn 0 .running pull joined
    let s := s.setChannel 0 { s.channel 0 with
      cutOffset := 256, records := [{ state := .backoff 0, offset := 0, length := 256, busy := 1 }] }
    ((after (.segmentIssue 0) s).channel 0).cutOffset = 256 ∧ (after (.segmentIssue 0) s).tracker.queued = [] := by decide +kernel

/-- A waiting channel whose peer is ABSENT ends PEER_ABSENT (R15). -/
theorem test_tag_allocation_absent :
    let s := channelIn 0 .running pull (inState .online up)
    ((after .tagAllocation (s.setChannel 0 { s.channel 0 with
      waiting := true, records := [{ state := .pending, offset := 0, length := 256 }] })).channel 0).code = .peerAbsent := by
  decide +kernel

theorem test_frame_gap : (after .frameGap { up with link := { up.link with idle := 4 } }).rx.state = .idle := by decide +kernel

theorem test_round_gap_too_early : (after .roundGap { up with link := { up.link with idle := 15, spent := true } }).link.spent =
    true := by decide +kernel

theorem test_start_bit_restarts_idle : (after .startBit { up with link := { up.link with idle := 3 } }).link.idle = 0 ∧
    (after .startBit { up with link := { up.link with idle := 3 } }).rx.state = .skipping := by decide +kernel

theorem test_claim_start :
    let s := { queued with rx := { queued.rx with state := .idle }, link := { queued.link with idle := 4 } }
    (after .claimStart s).link.unit = .claiming (.entry 3) ∧ (after .claimStart s).claimDriven = some 5 := by decide +kernel

theorem test_claim_lost : (after .claimLost { queued with link := { queued.link with unit := .claiming (.entry 3) } }).link.unit =
    .waiting := by decide +kernel

theorem test_claim_won : ((after .claimWon { queued with link := { queued.link with unit := .claiming (.entry 3) } }).entry 3).sendingMark =
    true := by decide +kernel

/-- The READ_REQ's clean end: LIVE, 1,024 µs, the LOW pointer at CH0; depth 2 lets segment 1 be QUEUED under tag 0 (10). -/
theorem test_send_clean_end :
    let t := after .sendCleanEnd (sending (.entry 3) queued)
    (t.entry 3).state = .live ∧ (t.entry 3).deadline = some 1024 ∧ t.link.spent = true ∧ t.link.lowPtr = 0 ∧
      (t.entry 0).remote = 0x001300 := by decide +kernel

/-- The ANNOUNCE's clean end (R110). -/
theorem test_announce_sent :
    let s := inState .listening up
    (after .sendCleanEnd (sending .control { s with member := { s.member with
      control := [{ kind := .announce, sending := true }] } })).member.state = .online := by decide +kernel

/-- The fourth garbled send in a row (R116). -/
theorem test_fourth_garbled_send :
    let s := sending (.entry 3) queued
    let t := after .sendGarbled { s with link := { s.link with garble := 3 } }
    t.member.state = .conflict ∧ t.member.cause = .garbled ∧ (t.channel 0).code = .conflict ∧ t.link.garble = 4 := by
  decide +kernel

/-- A claim whose readback differs is garbled too (R142, R152). -/
theorem test_garbled_claim :
    let t := after .sendGarbled (framing { queued with link := { queued.link with unit := .claiming (.entry 3) } })
    t.link.unit = .waiting ∧ t.link.garble = 1 ∧ t.link.spent = true ∧ t.rx.state = .framing ∧ (t.entry 3).state = .queued := by
  decide +kernel

/-- A bad frame is counted (R157), and a HELLO carrying LEAVING sets the leaving flag (R122). -/
theorem test_frame_judged : (after (.frameJudged 0 [1, 2]) (framing joined)).rx.badFrame = 1 ∧
    ((after (.frameJudged (claimValue 2 9) (Frame.bytes ⟨31, 9, .hello .leaving⟩)) (framing joined)).rosterEntry 9).leaving =
      true := by decide +kernel

/-- A frame with the own number (R115). -/
theorem test_duplicate : (after (.frameJudged (claimValue 2 5) (Frame.bytes ⟨31, 5, .hello .online⟩)) (framing joined)).member.cause =
    .duplicate := by decide +kernel

/-- A READ_REQ without a window that holds it is refused OUT_OF_WINDOW (R71). -/
theorem test_dispatch_request : (after .frameDispatch (received ⟨5, 9, .readReq 1 0x001000 64⟩ joined)).inbound.responses =
    [{ dest := 9, tag := 1, answer := .refuse .outOfWindow }] := by decide +kernel

/-- A gap in the READ_DATA of a LIVE entry: DATA_ERROR, and the record is issued again under another tag (R18, R54). -/
theorem test_dispatch_gap :
    let t := after .frameDispatch (received ⟨5, 9, .readData 3 false 16 [1, 2, 3, 4]⟩ pulling)
    (t.entry 3).state = .quarantined ∧ (t.entry 0).remote = 0x001200 ∧ (t.channel 0).records.head?.map (·.attempts) = some 1 := by
  decide +kernel

theorem test_deadline_expiry :
    let t := after (.deadlineExpiry 3) (pulling.setEntry 3 { pulling.entry 3 with deadline := some 0 })
    (t.entry 3).quarantine = some 1024 ∧ (t.entry 0).state = .queued := by decide +kernel

/-- At depth 2 segment 1 completes behind a gap, then segment 0: the front passes both (R17). -/
theorem test_front_passes_done_records :
    let s := pulling.setChannel 0 { pulling.channel 0 with
      cutOffset := 512
      records := [{ state := .outstanding 3, offset := 0, length := 256 }, { state := .outstanding 4, offset := 256, length := 256 }] }
    let t := s.report (.channel 0) 4 .completed
    (t.channel 0).front = 0 ∧ (t.channel 0).records.map (·.state) = [.outstanding 3, .done] ∧
      ((t.report (.channel 0) 3 .completed).channel 0).front = 512 ∧
      ((t.report (.channel 0) 3 .completed).channel 0).curRemote = 0x001400 ∧
      ((t.report (.channel 0) 3 .completed).channel 0).records = [] := by decide +kernel

/-- A HELLO carrying ONLINE that ends garbled in LEAVING is withdrawn (R107). -/
theorem test_garbled_hello_in_leaving :
    let s := inState .leaving joined
    (after .sendGarbled (sending .control { s with member := { s.member with
      control := [{ kind := .hello .online false, sending := true }, { kind := .hello .leaving false }] } })).member.control =
      [{ kind := .hello .leaving false }] := by decide +kernel

theorem test_quarantine_expiry : ((after (.quarantineExpiry 9)
    (up.setEntry 9 { state := .quarantined, quarantine := some 0 })).entry 9).state = .free := by decide +kernel

/-- The backoff's record is issued again (R19). -/
theorem test_segment_backoff_expiry :
    let s := channelIn 0 .running pull joined
    ((after (.segmentBackoffExpiry 0 0) (s.setChannel 0 { s.channel 0 with
      cutOffset := 256, records := [{ state := .backoff 0, offset := 0, length := 256, busy := 1 }] })).entry 0).state = .queued := by
  decide +kernel

theorem test_end_notice_backoff_expiry :
    let s := channelIn 0 .notifying pull joined
    ((after (.endNoticeBackoffExpiry 0) (s.setChannel 0 { s.channel 0 with
      notice := some { phase := .backoff 0, busy := 1 } })).entry 0).kind = .notice := by decide +kernel

theorem test_host_notice_backoff_expiry :
    ((after .hostNoticeBackoffExpiry (joined.setSlot { peer := 9, state := .sending (.backoff 0), busy := 1 })).entry 0).owner =
      .host := by decide +kernel

theorem test_listen_timer_expiry :
    let s := inState .listening up
    (after .listenTimerExpiry { s with member := { s.member with listen := some 0 } }).member.control = [{ kind := .announce }] := by
  decide +kernel

theorem test_heartbeat_timer_expiry :
    (after .heartbeatTimerExpiry { joined with member := { joined.member with heartbeat := .running 10000 } }).member.control =
      [{ kind := .hello .online true }] := by decide +kernel

/-- The drain limit: the LIVE entry ABANDONED, the channel LEFT (R30, R113). -/
theorem test_drain_timer_expiry :
    let s := inState .leaving pulling
    let t := after .drainTimerExpiry { s with member := { s.member with drain := some 0 } }
    (t.channel 0).code = .left ∧ (t.entry 3).state = .abandoned ∧ t.member.control = [{ kind := .leave }] := by decide +kernel

theorem test_drain_end :
    let s := inState .leaving joined
    (after .drainEnd { s with member := { s.member with drain := some 5 } }).member.control = [{ kind := .leave }] := by
  decide +kernel

/-- 30 ms of silence: the entry ABSENT, the channel PEER_LOST, the tag quarantined (R21, R58, R125). -/
theorem test_silence_timer_expiry :
    let t := after (.silenceTimerExpiry 9) (pulling.setRoster 9 { presence := .present 30000 })
    t.isPresent 9 = false ∧ (t.channel 0).code = .peerLost ∧ (t.entry 3).state = .quarantined := by decide +kernel

theorem test_bus_grant_with_nothing_waiting :
    (after .busGrant { up with port := { up.port with state := .requesting } }).port.state = .free := by decide +kernel

/-- A write's last word is in local RAM and the ACK is placed (R77). -/
theorem test_burst_end :
    let s := { joined with inbound := { joined.inbound with engine := .writing, queue := [inWrite] } }
    let t := after (.burstEnd 0) (inBurst { requester := .service, req := inWrite.writeBurst } s)
    t.ramWrites = [(0x20010000, 0x04030201)] ∧ t.inbound.responses = [{ dest := 9, tag := 2, answer := .ack }] := by
  decide +kernel

/-- A bus error on it: nothing written, REFUSE LOCAL_ERROR (R77, R179). -/
theorem test_bus_error :
    let s := { joined with inbound := { joined.inbound with engine := .writing, queue := [inWrite] } }
    let t := after .busError (inBurst { requester := .service, req := inWrite.writeBurst } s)
    t.ramWrites = [] ∧ t.inbound.responses = [{ dest := 9, tag := 2, answer := .refuse .localError }] := by decide +kernel

/-- A place that comes free is not the held answer's until its own event (R80): the refusal dispatched first takes it. -/
theorem test_held_answer_waits_for_its_event :
    let a : Response := { dest := 9, tag := 2, answer := .ack }
    let s := received ⟨5, 9, .readReq 1 0x001000 64⟩ { joined with inbound := { joined.inbound with
      engine := .answering a, queue := [inWrite], responses := fullResponses.tail } }
    (after .frameDispatch s).inbound.engine = .answering a ∧ (after .frameDispatch s).inbound.responses.length = 8 := by
  decide +kernel

theorem test_engine_answer_placed :
    let s := { joined with inbound := { joined.inbound with
      engine := .answering { dest := 9, tag := 2, answer := .ack }, queue := [inWrite] } }
    (after .engineAnswerPlaced s).inbound.engine = .idle := by decide +kernel

/-- Fetches made in one step enter in ascending channel number, behind those that were there (R170). -/
theorem test_fetches_ascend :
    let r : BurstRequest := { dir := .read, mode := .increment, first := 0x20004000, count := 16 }
    (orderFetches [(5, r)] [(5, r), (3, r), (1, r)]).map (·.1) = [5, 1, 3] := by decide +kernel

/-- CH0 and CH1 wait, tag 5 is FREE, and the ACK at the head of the Receive Buffer frees tag 2. -/
def freesTwo : State :=
  let full : State := { joined with tracker := { joined.tracker with
    entries := joined.tracker.entries.map fun _ => { state := .quarantined, quarantine := some 9 } } }
  let s := (full.setEntry 5 {}).setEntry 2 {
    state := .live, kind := .notice, owner := .channel 4, peer := 9, deadline := some 9 }
  let wants (c : ChannelNo) (s : State) : State := s.setChannel c {
    desc := pull, state := .running, cutOffset := 256, waiting := true,
    records := [{ state := .pending, offset := 0, length := 256 }] }
  received ⟨5, 9, .ack 2⟩ (wants 1 (wants 0 s))

/-- Of the tags freed in one step by two events the lowest goes to the first owner (R38). -/
theorem test_tags_of_one_step :
    (freesTwo.settle.entry 2).owner = .channel 0 ∧ (freesTwo.settle.entry 2).state = .queued ∧
      (freesTwo.settle.entry 5).owner = .channel 1 ∧ (freesTwo.settle.entry 5).state = .queued := by decide +kernel

/-- CH0 waits for a tag to a peer with its leaving flag while its READ_DATA is being landed: it ends PEER_ABSENT, the landing with
it, and the ACK behind is dispatched in the same step; CH1 has the lowest tag of them (R38, R39, R57, R163). -/
theorem test_drop_ends_a_landing :
    let s := freesTwo.setEntry 7 { state := .live, kind := .read, owner := .channel 0, peer := 3, length := 256,
                                   landingMark := true, deadline := some 9 }
    let s := s.setRoster 3 { presence := .present 0, leaving := true }
    let s := s.setChannel 0 { s.channel 0 with desc := { pull with peer := 3 }, cutOffset := 512,
                                               records := [{ state := .outstanding 7, offset := 0, length := 256 },
                                                           { state := .pending, offset := 256, length := 256 }] }
    let s := { s with rx := { s.rx with buffer := [⟨5, 3, .readData 7 true 0 [1, 2, 3, 4]⟩, ⟨5, 9, .ack 2⟩] } }
    (s.settle.channel 0).code = .peerAbsent ∧ (s.settle.entry 7).state = .abandoned ∧ s.settle.rx.buffer = [] ∧
      (s.settle.entry 2).owner = .channel 1 ∧ (s.settle.entry 2).state = .queued ∧ (s.settle.entry 5).state = .free := by
  decide +kernel

/-- Word 2 of a burst near the top of the local space is at 0000_0000H (R174). -/
theorem test_word_transfer_end :
    (after (.wordTransferEnd 0) (inBurst { requester := .landing, done := 2, req := {
      dir := .write, mode := .increment, first := 0xFFFFFFF8, count := 16, data := [1, 2, 3, 4] } } joined)).ramWrites =
      [(0x00000000#32, 3#32)] := by decide +kernel

/-! ## Witnesses: states and operands that meet the hypotheses of each statement, clause by clause -/

/-- No window holds an address while every window is disabled. -/
theorem windowTests_up : WindowTests up := by
  have off : ∀ n : Fin 8, (window up n).enable = false := by decide +kernel
  refine ⟨fun n h => ?_, fun n m x h _ => ?_⟩
  · rw [off n] at h; exact absurd h (by decide)
  · rw [Window.holds, off n] at h; exact absurd h (by simp)

/-- One enabled window passes the tests of JOIN. -/
theorem windowTests_one (s : State) (off : ∀ n : Fin 8, n ≠ 0 → (window s n).enable = false)
    (good : 4 ≤ (window s 0).size.toNat ∧ (window s 0).base.toNat + (window s 0).size.toNat ≤ 0x1000000 ∧
      (window s 0).access ≠ 3) : WindowTests s := by
  have zero : ∀ (n : Fin 8) (x : Nat), (window s n).holds x = true → n = 0 := fun n x h => by
    by_contra hn
    rw [Window.holds, off n hn] at h
    exact absurd h (by simp)
  refine ⟨fun n h => ?_, fun n m x h k => (zero n x h).trans (zero m x k).symm⟩
  by_cases hn : n = 0
  · subst hn; exact good
  · rw [off n hn] at h; exact absurd h (by decide)

theorem windowTests_windowed : WindowTests (windowed joined) :=
  windowTests_one _ (by decide +kernel) (by decide +kernel)

theorem witness_EmptyQueueIsOneMicrosecond : (up.pending = [] ∧ up.host.resetLow = false ∧
    (joined.rosterEntry 9).presence = .present 0) ∧ State.reset.pending = [] ∧ State.reset.host.resetLow = true := by
  decide +kernel

theorem witness_EveryCommandCompletes : Instr.wellFormed (.frameJudged 73 [31, 9, 0x42, 6, 0, 0]) = true ∧
    completes (.frameJudged 73 [31, 9, 0x42, 6, 0, 0]) joined = true := by decide +kernel

/-- The engine idle with an empty Inbound Queue and with none; an engine that holds an answer; a full Receive Buffer, and work
that is due. -/
theorem witness_SettleIsIdleWhenNothingIsDue : NothingDue up ∧
    NothingDue { up with inbound := { up.inbound with
      engine := .answering { dest := 9, tag := 0, answer := .ack }, queue := [inWrite] } } ∧
    (let f : Frame := ⟨5, 9, .readReq 1 0x001000 64⟩
     let s : State := { windowed joined with rx := { joined.rx with buffer := [f, f, f, f] } }
     TrackerTimers s ∧ s.rx.buffer.length ≤ 4 ∧ s.dispatchDue = true ∧ s.settle.rx.buffer = [] ∧ s.settle.inbound.engine = .reading 0) :=
  ⟨⟨by decide +kernel, by decide +kernel, by decide +kernel, by decide +kernel, fun _ => rfl⟩,
    ⟨by decide +kernel, by decide +kernel, by decide +kernel, by decide +kernel, fun h => Engine.noConfusion h⟩,
    by unfold TrackerTimers EntryTimers; decide +kernel⟩

theorem witness_JoinByItsTests : (up.host.resetLow = false ∧ up.member.state = .offline ∧ JoinTests up) ∧
    ¬ JoinTests { up with member := { up.member with number := 31 } } :=
  ⟨⟨rfl, rfl, by decide, by decide, by decide, windowTests_up⟩, fun h => h.1 rfl⟩

theorem witness_LeaveStartsTheDrain : (joined.host.resetLow = false ∧ joined.member.state = .online) ∧
    pulling.host.resetLow = false ∧ pulling.member.state = .online := by decide +kernel

theorem witness_LeaveInListeningGoesOffline : (inState .listening up).host.resetLow = false ∧
    (inState .listening up).member.state = .listening := by decide +kernel

theorem witness_StationResetKeepsItsList : pulling.host.resetLow = false := rfl

theorem witness_ResetsClearTheSlot : (hostNotice .live).host.resetLow = false := rfl

theorem witness_HoldAndNoticeCommandsTaken :
    (up.host.resetLow = false ∧ { up with holdDepth := 14 }.holdDepth < 15 ∧ 2 ≤ { up with holdDepth := 2 }.holdDepth ∧
      { up with holdDepth := 1 }.holdDepth = 1) ∧
    (joined.host.resetLow = false ∧ joined.member.state = .online ∧ joined.notices.slot.state.isSending = false ∧
      joined.notices.slot.peer ≠ 31 ∧ joined.notices.slot.peer ≠ joined.member.number) ∧
    (joined.appendNotice 9 1).notices.queue = { src := 9, code := 1, seq := 1 } :: [] := by decide +kernel

theorem witness_ClearCountersClearsAllThree : up.host.resetLow = false := rfl

theorem witness_CommandsRefused :
    (up.host.resetLow = false ∧ joined.member.state ≠ .offline ∧ up.member.state = .offline ∧
      15 ≤ { up with holdDepth := 15 }.holdDepth ∧ up.holdDepth = 0 ∧ up.member.state ≠ .online ∧
      (hostNotice .live).notices.slot.state.isSending = true ∧ joined.member.state = .online ∧
      joined.notices.slot.state.isSending = false ∧ (joined.setSlot { peer := 31 }).notices.slot.peer = 31 ∧
      (joined.setSlot { peer := 5 }).notices.slot.peer = joined.member.number ∧ up.notices.queue = []) ∧
    6 ≤ (6#3).toNat ∧ 6 ≤ (7#3).toNat ∧ (9 ≤ (9#8).toNat ∧ (9#8).toNat ≤ 0x0F) ∧ 0x16 ≤ (0x16#8).toNat := by
  decide +kernel

theorem witness_ChEnableValidatesAndArms :
    let s := channelIn 5 .off pull joined
    (s.host.resetLow = false ∧ (s.channel 5).state = .off ∧ DescriptorTests (s.channel 5).desc s.member.number) ∧
    ((joined.channel 5).state = .off ∧ ¬ DescriptorTests (joined.channel 5).desc joined.member.number) ∧
    (pulling.channel 0).state ≠ .off := by
  refine ⟨⟨rfl, by decide +kernel, ?_⟩, ⟨by decide +kernel, fun h => h.1.1 (by decide +kernel)⟩, by decide +kernel⟩
  unfold DescriptorTests
  decide +kernel

theorem witness_ChStartTriggersAndStarts :
    (up.host.resetLow = false ∧ ((channelIn 0 .armed pull up).channel 0).state = .armed ∧
      ((channelIn 0 .armed pull up).channel 0).latch = false ∧ (channelIn 0 .armed pull up).member.state ≠ .online) ∧
    (let s := channelIn 0 .armed pull joined
     ¬ (s.member.state ≠ .online ∨ s.holdDepth ≠ 0 ∨ (s.channel 0).pause = true)) ∧
    (let s := channelIn 0 .armed pull up
     ((s.setChannel 0 { s.channel 0 with latch := true }).channel 0).latch = true) ∧
    (pulling.channel 0).state = .running ∧ (joined.channel 1).state = .off := by decide +kernel

theorem witness_PauseAndResume : pulling.host.resetLow = false ∧ (pulling.channel 0).state = .running ∧
    ((channelIn 0 .armed pull joined).channel 0).state = .armed ∧
    ((channelIn 0 .paused pull joined).channel 0).state = .paused ∧
    ((channelIn 0 .notifying pull joined).channel 0).state = .notifying ∧ (joined.channel 0).state = .off := by
  decide +kernel

theorem witness_ChAbortEndsTheTransfer :
    (pulling.host.resetLow = false ∧ (pulling.channel 0).state ≠ .off ∧ (pulling.channel 0).desc.errIrq = true ∧
      (pulling.entry 3).owner = .channel 0 ∧ (pulling.entry 3).state = .live ∧ pulling.rx.buffer = [] ∧
      (pulling.entry 4).owner = .channel 0 ∧ (pulling.entry 4).state = .free) ∧
    (let w := sending (.entry 3) (queued.setEntry 3 { queued.entry 3 with kind := .write })
     (w.channel 0).state ≠ .off ∧ (w.entry 3).owner = .channel 0 ∧ (w.entry 3).state = .queued ∧ (w.entry 3).kind = .write ∧
       w.link.unit = .sending (.entry 3) ∧ (after (.chAbort 0) w).link.spent = true) ∧
    ((queued.channel 0).state ≠ .off ∧ (queued.entry 3).owner = .channel 0 ∧ (queued.entry 3).state = .queued ∧
      queued.link.unit ≠ .sending (.entry 3) ∧ queued.link.unit ≠ .claiming (.entry 3)) ∧
    (let m := received ⟨5, 9, .readData 3 false 0 [1, 2, 3, 4]⟩ (pulling.setEntry 3 { pulling.entry 3 with landingMark := true })
     (m.channel 0).state ≠ .off ∧ (m.entry 3).owner = .channel 0 ∧ (m.entry 3).state = .live ∧
       (m.entry 3).landingMark = true ∧ (∀ h : Tag, (m.entry h).landingMark = true → h = 3) ∧
       (after (.chAbort 0) m).rx.buffer = []) ∧
    ((hostNotice .live).entry 7).owner ≠ .channel 0 ∧ (pulling.channel 1).state = .off := by decide +kernel

theorem witness_ChDisableTakesArmedToOff : (channelIn 5 .armed pull joined).host.resetLow = false ∧
    ((channelIn 5 .armed pull joined).channel 5).state = .armed ∧ (pulling.channel 0).state ≠ .armed := by decide +kernel

theorem witness_WindowWriteReadsBack : up.host.resetLow = false ∧ up.member.state = .offline := by decide +kernel

theorem witness_DescriptorWriteReadsBack : joined.host.resetLow = false ∧ (joined.channel 5).state = .off := by decide +kernel

theorem witness_SettingsAreWrittenInOffline :
    let s := up.setRoster 9 { presence := .present 7 }
    s.host.resetLow = false ∧ s.member.state = .offline ∧ s.isPresent 9 = true ∧ s.isPresent 31 = false := by decide +kernel

theorem witness_LockedWritesAreRecorded : pulling.host.resetLow = false ∧ pulling.member.state ≠ .offline ∧
    (pulling.channel 0).state ≠ .off ∧ (hostNotice .live).notices.slot.state.isSending = true := by decide +kernel

theorem witness_HostPortWrites : (up.host.resetLow = false ∧ up.notices.slot.state.isSending = false) ∧
    (9 ≤ (9#8).toNat ∧ (9#8).toNat ≤ 0x0F) ∧ 0x16 ≤ (0x16#8).toNat ∧
    writableRegister 0x01 = false ∧ writableRegister 0x70 = false ∧ State.reset.host.resetLow = true := by decide +kernel

theorem witness_RosterChangeWriteClearsOnes : up.host.resetLow = false := rfl

theorem witness_HardwareResetAndRelease : State.reset.host.resetLow = true ∧ up.host.resetLow = false := by decide +kernel

theorem witness_ResetLowTakesNoEvent : State.reset.host.resetLow = true ∧ State.reset.port.state = .free ∧
    State.reset.port.tail = none ∧ Instr.wellFormed (.join 0) = true ∧
    (let b : Burst := { requester := .service, req := { dir := .write, mode := .increment, first := 16, count := 2, data := [7, 8] } }
     let s := after .hardwareReset (inBurst b joined)
     s.host.resetLow = true ∧ s.port.state = .free ∧ s.port.tail = some { dir := .write, addr := 16, data := 7 } ∧
       (after (.wordTransferEnd 0) s).ramWrites = [(16, 7)] ∧ (after .busError s).ramWrites = []) := by decide +kernel

theorem witness_TriggerEdgeReachesItsChannels :
    let d : Descriptor := { pull with triggerSource := .line1 }
    let s := channelIn 4 .paused d (channelIn 3 .armed d (channelIn 2 .armed pull up))
    (s.host.resetLow = false ∧ (after (.triggerEdge 1) s).channel 3 = { s.channel 3 with latch := true }) ∧
    ((after (.triggerEdge 1) (channelIn 3 .armed d joined)).channel 3).state = .running ∧
    ((s.channel 3).desc.triggerSource = .line1 ∧ (s.channel 3).state = .armed ∧ (s.channel 3).latch = false) ∧
    ((s.channel 4).desc.triggerSource = .line1 ∧ (s.channel 4).state = .paused) ∧
    (s.channel 2).desc.triggerSource ≠ .line1 := by decide +kernel

theorem witness_SegmentIssueQueuesARequest :
    let ok : State → Prop := fun s =>
      s.host.resetLow = false ∧ s.member.state = .online ∧ s.holdDepth = 0 ∧ (s.channel 0).state = .running ∧
      (s.channel 0).outstandingCount < (s.channel 0).desc.depth ∧ s.ownsQueued (.channel 0) = false ∧ s.slotWaits = false ∧
      (∀ e : ChannelNo, e ≠ 0 → (s.channel e).waiting = false) ∧ s.lowestFree = some 0 ∧
      s.isPresent (s.channel 0).desc.peer = true ∧ (s.rosterEntry (s.channel 0).desc.peer).leaving = false
    let cuts : State → Prop := fun s =>
      (s.channel 0).cutOffset < (s.channel 0).desc.length.toNat ∧ (s.channel 0).records.length < 4 ∧
      ∀ x ∈ (s.channel 0).records, x.state ≠ .pending ∧ x.state ≠ .backoff 0
    let seg (st : SegState) : SegRecord := { state := st, offset := 0, length := 256 }
    let again : SegRecord := { state := .pending, offset := 256, length := 256 }
    let holding (l : List SegRecord) : State :=
      let s := channelIn 0 .running pull joined
      s.setChannel 0 { s.channel 0 with cutOffset := 512, records := l }
    (ok (channelIn 0 .running pull joined) ∧ cuts (channelIn 0 .running pull joined) ∧
      ((channelIn 0 .running pull joined).channel 0).desc.direction = .pull) ∧
    (ok (channelIn 0 .running push joined) ∧ cuts (channelIn 0 .running push joined) ∧
      ((channelIn 0 .running push joined).channel 0).desc.direction = .push) ∧
    (ok (holding [seg .done, seg (.backoff 1)]) ∧ cuts (holding [seg .done, seg (.backoff 1)])) ∧
    (ok (holding [seg (.backoff 0), again]) ∧
      ((holding [seg (.backoff 0), again]).channel 0).records = [seg (.backoff 0)] ++ again :: [] ∧
      (∀ x ∈ [seg (.backoff 0)], x.state ≠ .pending) ∧ again.state = .pending) ∧
    (ok (holding [seg (.backoff 0)]) ∧ (∀ x ∈ ((holding [seg (.backoff 0)]).channel 0).records, x.state ≠ .pending) ∧
      ∃ x ∈ ((holding [seg (.backoff 0)]).channel 0).records, x.state = .backoff 0) := by
  refine ⟨⟨?_, ?_, ?_⟩, ⟨?_, ?_, ?_⟩, ⟨?_, ?_⟩, ⟨?_, ?_, ?_, ?_⟩, ?_, ?_, ?_⟩ <;> decide +kernel

theorem witness_TagsAreOffered :
    let a := joined.setSlot { peer := 9, state := .sending .waiting }
    let b := joined.setSlot { peer := 2, state := .sending .waiting }
    let c := channelIn 0 .running pull (inState .online up)
    let c := c.setChannel 0 { c.channel 0 with
      waiting := true, records := [{ state := .pending, offset := 0, length := 256 }] }
    (a.host.resetLow = false ∧ a.lowestFree = some 0 ∧ a.slotWaits = true ∧ (∀ d : ChannelNo, (a.channel d).waiting = false) ∧
      a.isPresent a.notices.slot.peer = true ∧ (a.rosterEntry a.notices.slot.peer).leaving = false) ∧
    (b.slotWaits = true ∧ b.lowestFree = some 0 ∧ b.isPresent b.notices.slot.peer = false) ∧
    (c.host.resetLow = false ∧ c.lowestFree = some 0 ∧ c.slotWaits = false ∧
      (∀ d : ChannelNo, d ≠ 0 → (c.channel d).waiting = false) ∧ (c.channel 0).waiting = true ∧ c.wantsTag 0 = true ∧
      (c.channel 0).state = .running ∧ (c.channel 0).records.any (·.isPending) = true ∧
      c.isPresent (c.channel 0).desc.peer = false) ∧
    (joined.lowestFree = some 0 ∧ ∀ o ∈ ownerOrder, joined.waits o = false) := by decide +kernel

/-- A channel that waits with a PENDING segment. -/
def wantsSegment (c : ChannelNo) (s : State) : State :=
  let s := channelIn c .running pull s
  s.setChannel c { s.channel c with
    waiting := true, cutOffset := 256, records := [{ state := .pending, offset := 0, length := 256 }] }

/-- A tag for a channel's segment and for its end notice, whose peer may be ABSENT; and two owners that wait. -/
theorem witness_TagsAreOffered_toChannels :
    let one := wantsSegment 2 joined
    let ending (s : State) : State :=
      let s := channelIn 2 .notifying pull s
      s.setChannel 2 { s.channel 2 with waiting := true, notice := some { phase := .waiting } }
    let slot := one.setSlot { peer := 9, state := .sending .waiting }
    let two := wantsSegment 5 one
    let asks (c : ChannelNo) (s : State) : Prop := (s.channel c).waiting = true ∧ s.wantsTag c = true ∧
      (s.channel c).state = .running ∧ (s.channel c).records.any (·.isPending) = true ∧
      s.isPresent (s.channel c).desc.peer = true ∧ (s.rosterEntry (s.channel c).desc.peer).leaving = false
    (one.host.resetLow = false ∧ one.lowestFree = some 0 ∧ one.slotWaits = false ∧ asks 2 one ∧
      (∀ d : ChannelNo, d ≠ 2 → (one.channel d).waiting = false) ∧
      (one.channel 2).records = [] ++ { state := .pending, offset := 0, length := 256 } :: []) ∧
    ((ending joined).slotWaits = false ∧ (∀ d : ChannelNo, d ≠ 2 → ((ending joined).channel d).waiting = false) ∧
      ((ending joined).channel 2).waiting = true ∧ (ending joined).wantsTag 2 = true ∧
      ((ending joined).channel 2).state = .notifying ∧ ((ending joined).channel 2).notice = some { phase := .waiting } ∧
      (ending joined).isPresent 9 = true ∧ ((ending joined).rosterEntry 9).leaving = false) ∧
    ((ending (inState .online up)).wantsTag 2 = true ∧ (ending (inState .online up)).isPresent 9 = false) ∧
    (slot.rx.buffer = [] ∧ (slot.entry 1).state = .free ∧ (∀ x : Tag, (slot.entry x).state = .free → x = 0 ∨ 1 ≤ x) ∧
      asks 2 slot ∧ slot.slotWaits = true ∧ slot.isPresent slot.notices.slot.peer = true ∧
      (∀ d : ChannelNo, d ≠ 2 → (slot.channel d).waiting = false)) ∧
    (two.lowestFree = some 0 ∧ two.slotWaits = false ∧ asks 2 two ∧ asks 5 two ∧
      ∀ e : ChannelNo, e ≠ 2 → e ≠ 5 → (two.channel e).waiting = false) := by
  refine ⟨⟨?_, ?_, ?_, ?_, ?_, ?_⟩, ⟨?_, ?_, ?_⟩, ?_, ⟨?_, ?_, ?_, ?_, ?_⟩, ?_, ?_, ?_, ?_, ?_⟩ <;> decide +kernel

/-- Two tags that one step leaves FREE, taken by two owners in their order. -/
theorem witness_TagsAreOffered_inOneStep :
    (freesTwo.entry 2).state ≠ .queued ∧ (freesTwo.settle.entry 2).state = .queued ∧ (freesTwo.entry 5).state ≠ .queued ∧
      (freesTwo.settle.entry 5).state = .queued ∧ (freesTwo.settle.entry 2).owner = .channel 0 ∧
      (freesTwo.settle.entry 5).owner = .channel 1 ∧ (0 : ChannelNo) < 1 := by decide +kernel

theorem formatGood_read : FormatGood false 0x001FC0 64 [] := by
  unfold FormatGood
  decide

/-- W0 with an empty source set. -/
def unsourced : State :=
  { joined with inbound := { joined.inbound with
      windows := (windowed joined).inbound.windows.set 0 { window (windowed joined) 0 with sources := 0 } } }

/-- The last 64 bytes of W0, whose source set is empty. -/
theorem witness_WindowsHoldResolveAndPermit :
    unsourced.member.state = .online ∧ FormatGood false 0x001FC0 64 [] ∧ WindowTests unsourced ∧
      (window unsourced 0).sources = 0 ∧ (window unsourced 0).holds 0x001FC0 = true ∧
      (window unsourced 0).holds (0x001FC0 + 64 - 1) = true ∧ (window unsourced 0).base.toNat ≤ 0x001FC0 ∧
      unsourced.inbound.responses.length < 8 :=
  ⟨by decide +kernel, formatGood_read, windowTests_one _ (by decide +kernel) (by decide +kernel), by decide +kernel,
    by decide +kernel, by decide +kernel, by decide +kernel, by decide +kernel⟩

/-- Each verdict at a boundary: the last byte in the window, one byte beyond it, a full queue. -/
theorem witness_ArrivalChecksInOrder :
    let s := windowed joined
    (s.member.state = .online ∧ WindowTests s ∧ FormatGood false 0x001FC0 64 [] ∧ (window s 0).holds 0x001FC0 = true ∧
      (window s 0).holds (0x001FC0 + 64 - 1) = true ∧ (window s 0).sources.getLsbD 9 = true ∧ (window s 0).access = 2 ∧
      s.inbound.queue.length < 8 ∧ s.inbound.responses.length < 8) ∧
    s.arrivalCheck 9 false 0x000FFC 4 [] = .inl .outOfWindow ∧
    ((window s 0).holds 0x001FFC = true ∧ (window s 0).holds (0x001FFC + 8 - 1) = false) ∧
    ((window s 0).sources.getLsbD 31 = false) ∧ (∀ n : Fin 8, (window s n).holds 0x000FFC = false) ∧
    ¬ FormatGood false 0x001000 260 [] ∧ up.member.state ≠ .online := by
  refine ⟨⟨by decide +kernel, windowTests_windowed, formatGood_read, by decide +kernel, by decide +kernel, by decide +kernel,
    by decide +kernel, by decide +kernel, by decide +kernel⟩, by decide +kernel, by decide +kernel, by decide +kernel, by decide +kernel,
    fun h => absurd (h.2.2.1 rfl) (by decide), by decide +kernel⟩

theorem witness_RequestsAreDispatched :
    let r := received ⟨5, 9, .readReq 1 0x001000 64⟩
    let q := received ⟨5, 9, .writeReq 2 0x001000 4 [1, 2, 3, 4]⟩ (windowed joined)
    ((r joined).host.resetLow = false ∧ (r joined).landingTag = none ∧
      (r joined).rx.buffer = ⟨5, 9, .readReq 1 0x001000 64⟩ :: [] ∧
      (r joined).arrivalCheck 9 false 0x001000 64 [] = .inl .outOfWindow ∧ (r joined).inbound.responses.length < 8) ∧
    8 ≤ { r joined with inbound := { joined.inbound with responses := fullResponses } }.inbound.responses.length ∧
    (q.landingTag = none ∧ q.arrivalCheck 9 true 0x001000 4 [1, 2, 3, 4] = .inr 0x20010000) := by decide +kernel

theorem witness_NoticesAreTestedInOrder :
    let r := received ⟨5, 9, .notice 4 0x0B20⟩
    let d : Descriptor := { pull with triggerSource := .notice, triggerCode := 0x0B20, triggerStation := 9 }
    let s := r (channelIn 3 .armed d (channelIn 1 .armed d joined))
    ((r joined).host.resetLow = false ∧ (r joined).landingTag = none ∧
      (r joined).rx.buffer = ⟨5, 9, .notice 4 0x0B20⟩ :: [] ∧ (r joined).inbound.responses.length < 8) ∧
    ((r (inState .leaving joined)).member.state ≠ .online) ∧ 8 ≤ fullResponses.length ∧
    ((s.channel 1).candidate 9 0x0B20 = true ∧ (∀ c : ChannelNo, c < 1 → (s.channel c).candidate 9 0x0B20 = false)) ∧
    ((∀ c : ChannelNo, (joined.channel c).state ≠ .armed) ∧ joined.notices.queue.length < 8) ∧
    8 ≤ { joined with notices := { joined.notices with
      queue := List.replicate 8 { src := 9, code := 1, seq := 1 } } }.notices.queue.length := by decide +kernel

theorem witness_AnswersMatchOrAreStale :
    let r := received ⟨5, 9, .ack 7⟩
    ((r joined).host.resetLow = false ∧ (r joined).landingTag = none ∧ (r joined).rx.buffer = ⟨5, 9, .ack 7⟩ :: [] ∧
      ¬ Matches ((r joined).entry 7) 9 (.ack 7)) ∧
    (Matches ((r (hostNotice .abandoned)).entry 7) 9 (.ack 7) ∧ ((r (hostNotice .abandoned)).entry 7).state = .abandoned) ∧
    (Matches ((r (hostNotice .live)).entry 7) 9 (.ack 7) ∧ ((r (hostNotice .live)).entry 7).state = .live ∧
      ((r (hostNotice .live)).entry 7).owner = .host ∧
      (r (hostNotice .live)).notices.slot.state = .sending (.tagged 7)) ∧
    Matches ((received ⟨5, 9, .refuse 7 .denied⟩ (hostNotice .live)).entry 7) 9 (.refuse 7 .denied) ∧
    (let p := received ⟨5, 9, .ack 3⟩ (pulling.setEntry 3 { pulling.entry 3 with kind := .write })
     Matches (p.entry 3) 9 (.ack 3) ∧ (p.entry 3).state = .live ∧ (p.entry 3).owner = .channel 0) ∧
    (let sent (busy attempts : Nat) : State :=
       joined.setSlot { peer := 9, state := .sending (.tagged 7), busy := busy, attempts := attempts }
     ((sent 14 2).notices.slot.state = .sending (.tagged 7) ∧ (sent 14 2).notices.slot.busy < 15 ∧
       (sent 14 2).notices.slot.attempts < 3) ∧
     15 ≤ (sent 15 3).notices.slot.busy ∧ 3 ≤ (sent 15 3).notices.slot.attempts) := by
  unfold Matches
  decide +kernel

theorem witness_ReadDataIsChecked :
    let ok : FrameBody := .readData 3 false 0 [1, 2, 3, 4]
    let r := received ⟨5, 9, ok⟩ pulling
    let absorbed := pulling.setEntry 3 { pulling.entry 3 with state := .abandoned }
    (r.host.resetLow = false ∧ r.landingTag = none ∧ r.rx.buffer = ⟨5, 9, ok⟩ :: [] ∧ Matches (r.entry 3) 9 ok ∧
      (r.entry 3).state = .live ∧ ReadDataPasses (r.entry 3) false 0 4) ∧
    (¬ ReadDataPasses (r.entry 3) false 4 4) ∧ (¬ ReadDataPasses (r.entry 3) true 0 252) ∧
    (ReadDataPasses (r.entry 3) true 0 256) ∧ (¬ ReadDataPasses (r.entry 3) false 0 260) ∧
    (Matches (absorbed.entry 3) 9 ok ∧ (absorbed.entry 3).state = .abandoned) ∧ ¬ Matches (r.entry 3) 2 ok := by
  unfold Matches ReadDataPasses
  decide +kernel

theorem witness_BadFramesAndDuplicates :
    let own : Frame := ⟨31, 5, .announce⟩
    ((framing joined).host.resetLow = false ∧ (framing joined).rx.state = .framing ∧ (framing joined).rx.ownMark = false ∧
      judgeFrame 0 [] = none) ∧
    (joined.rx.state ≠ .framing ∧ (sending .control joined).rx.ownMark = true) ∧
    (judgeFrame (claimValue 2 5) own.bytes = some own ∧ own.src = joined.member.number ∧ joined.member.state = .online ∧
      up.member.state = .offline ∧ own.src = up.member.number) := by decide +kernel

theorem witness_BadFramesAndDuplicates_idle : (framing up).rx.state = .framing ∧ (framing up).rx.ownMark = false ∧
    (framing up).member.state = .offline ∧ NothingDue (framing up) :=
  ⟨rfl, rfl, rfl, by decide +kernel, by decide +kernel, by decide +kernel, by decide +kernel, fun _ => rfl⟩

theorem witness_ValidFramesUpdateTheRoster :
    let f : Frame := ⟨31, 9, .leave⟩
    let a : Frame := ⟨31, 9, .announce⟩
    let s := framing pulling
    let full : State := { s with rx := { s.rx with buffer := [a, a, a, a] } }
    (s.host.resetLow = false ∧ s.rx.state = .framing ∧ s.rx.ownMark = false ∧
      judgeFrame (claimValue 2 9) f.bytes = some f ∧ f.src ≠ s.member.number ∧ s.isPresent 9 = true ∧ s.rx.buffer = [] ∧
      (s.entry 3).peer = 9 ∧ (s.entry 3).state = .live ∧ (s.entry 3).owner = .channel 0 ∧ (s.channel 0).notice = none ∧
      (∃ r ∈ (s.channel 0).records, r.state = .outstanding 3) ∧ f.dest = 31 ∧ s.member.state = .online) ∧
    (judgeFrame (claimValue 2 9) a.bytes = some a ∧ f.body = .leave ∧ a.body = .announce) ∧
    (full.rx.state = .framing ∧ full.rx.ownMark = false ∧ 4 ≤ (full.rosterHears 9 a.body).rx.buffer.length) ∧
    ((framing up).rx.state = .framing ∧ (framing up).member.state = .offline) ∧
    (let c : Frame := ⟨2, 9, .ack 3⟩
     judgeFrame (claimValue 3 9) c.bytes = some c ∧ c.dest ≠ 31 ∧ c.dest ≠ s.member.number.setWidth 8) := by decide +kernel

theorem witness_GapsAndStartBits :
    let idle (n : Nat) : State := { up with link := { up.link with idle := n } }
    let rxIdle (n : Nat) : State := { idle n with rx := { up.rx with state := .idle } }
    (up.host.resetLow = false ∧ 4 ≤ (idle 4).link.idle ∧ (idle 4).rx.state = .skipping) ∧ (idle 3).link.idle < 4 ∧
    16 ≤ (idle 16).link.idle ∧ (idle 15).link.idle < 16 ∧ (4 ≤ (rxIdle 4).link.idle ∧ (rxIdle 4).rx.state = .idle) ∧
    (rxIdle 4).rx.state ≠ .skipping ∧ (idle 4).rx.state ≠ .idle := by decide +kernel

theorem witness_ClaimsStartAreLostAndWon :
    let s := { queued with rx := { queued.rx with state := .idle }, link := { queued.link with idle := 4 } }
    let c (f : FrameRef) : State := { queued with
      link := { queued.link with unit := .claiming f }
      member := { queued.member with control := [{ kind := .hello .online true }] } }
    (s.host.resetLow = false ∧ s.link.unit = .waiting ∧ s.rx.state = .idle ∧ 4 ≤ s.link.idle ∧
      s.candidate = some (.entry 3)) ∧
    (joined.candidate = none ∧ joined.link.unit = .waiting) ∧
    ((c (.entry 3)).link.unit = .claiming (.entry 3) ∧ ((c (.entry 3)).entry 3).state = .queued) ∧
    ((c .control).link.unit = .claiming .control ∧
      (c .control).member.control = { kind := .hello .online true } :: []) ∧
    (let r : Response := { dest := 9, tag := 1, answer := .ack }
     let d : DataFrame := { dest := 9, tag := 1, offset := 0, last := true, payload := [1, 2, 3, 4] }
     let x (f : FrameRef) : State := { c f with inbound := { (c f).inbound with responses := [r], dataSlot := some d } }
     (x .response).link.unit = .claiming .response ∧ (x .response).inbound.responses = r :: [] ∧
       (x .dataSlot).link.unit = .claiming .dataSlot ∧ (x .dataSlot).inbound.dataSlot = some d) := by decide +kernel

theorem witness_SelectorOrder :
    let r : Response := { dest := 9, tag := 1, answer := .ack }
    let d : DataFrame := { dest := 9, tag := 1, offset := 0, last := true, payload := [1, 2, 3, 4] }
    let notice := hostNotice .queued
    let notice := { notice with tracker := { notice.tracker with queued := [7] } }
    (up.member.state = .offline ∧ (inState .listening up).member.state = .listening ∧ queued.member.state = .online) ∧
    (r.sending = false ∧ d.sending = false ∧ queued.inbound.responses = [] ∧ queued.inbound.dataSlot = none ∧
      queued.member.control = [] ∧ queued.link.spent = false) ∧
    (notice.tracker.queued = [] ++ 7 :: [] ∧ (notice.entry 7).kind = .notice ∧ notice.entryReady 7 = true) ∧
    ((∀ g ∈ queued.tracker.queued, (queued.entry g).kind = .notice → queued.entryReady g = false) ∧
      queued.candidate = some (.entry 3) ∧ queued.requestOf 0 ≠ none) ∧
    (∀ c : ChannelNo, joined.requestOf c = none) := by decide +kernel

theorem witness_RequestSentCleanly :
    let s := sending (.entry 3) queued
    let notice := sending (.entry 7) (hostNotice .queued)
    (s.host.resetLow = false ∧ s.link.unit = .sending (.entry 3) ∧ (s.entry 3).state = .queued ∧
      (s.entry 3).owner = .channel 0 ∧ (s.entry 3).kind ≠ .notice) ∧
    (notice.link.unit = .sending (.entry 7) ∧ (notice.entry 7).state = .queued ∧ (notice.entry 7).kind = .notice) := by
  decide +kernel

theorem witness_AnswerSentCleanly :
    let slot (next : Nat) : State := sending .dataSlot { joined with inbound := { joined.inbound with
      engine := .reading next, queue := [inRead 128] } }
    (up.host.resetLow = false ∧ (sending .response { joined with inbound := { joined.inbound with
      responses := [{ dest := 9, tag := 1, answer := .ack, sending := true }] } }).link.unit = .sending .response) ∧
    ((slot 64).link.unit = .sending .dataSlot ∧ (slot 64).inbound.engine = .reading 64 ∧
      (slot 64).inbound.queue = inRead 128 :: [] ∧ 64 < (inRead 128).length ∧ (inRead 128).length ≤ 128) ∧
    (sending .control { joined with member := { joined.member with
      control := [{ kind := .hello .online true, sending := true }] } }).member.control =
      { kind := .hello .online true, sending := true } :: [] := by decide +kernel

theorem witness_CleanEndsChangeTheStation :
    let s (st : StationState) (k : ControlKind) : State := sending .control { inState st joined with
      member := { (inState st joined).member with control := [{ kind := k, sending := true }] } }
    ((s .listening .announce).host.resetLow = false ∧ (s .listening .announce).link.unit = .sending .control ∧
      (s .listening .announce).member.state = .listening ∧
      (s .listening .announce).member.control = [{ kind := .announce, sending := true }]) ∧
    ((s .leaving .leave).link.unit = .sending .control ∧ (s .leaving .leave).member.state = .leaving ∧
      (s .leaving .leave).member.control = [{ kind := .leave, sending := true }]) := by decide +kernel

/-- Each kind of frame, sent and claimed, below the garble limit and at it. -/
theorem witness_GarbledSends :
    let at_ (f : FrameRef) (n : Nat) (s : State) : State := { s with link := { s.link with unit := .sending f, garble := n } }
    let notice := at_ (.entry 7) 2 (hostNotice .queued)
    let request := at_ (.entry 3) 2 queued
    let claim : State := { queued with link := { queued.link with unit := .claiming (.entry 3) } }
    let d : DataFrame := { dest := 9, tag := 1, offset := 0, last := true, payload := [1, 2, 3, 4], sending := true }
    let r : Response := { dest := 9, tag := 1, answer := .ack, sending := true }
    let x : ControlFrame := { kind := .hello .online true, sending := true }
    let b : State := { joined with
      inbound := { joined.inbound with responses := [r], dataSlot := some d }
      member := { joined.member with control := [x] } }
    (request.host.resetLow = false ∧ request.link.unit = .sending (.entry 3) ∧ request.link.garble < 3 ∧
      (request.entry 3).state = .queued ∧ (request.entry 3).owner = .channel 0 ∧ (request.entry 3).kind ≠ .notice) ∧
    (claim.link.unit = .claiming (.entry 3) ∧ claim.link.garble < 3) ∧
    (notice.link.unit = .sending (.entry 7) ∧ notice.link.garble < 3 ∧ (notice.entry 7).state = .queued ∧
      (notice.entry 7).kind = .notice) ∧
    ((at_ .response 0 b).link.unit = .sending .response ∧ (at_ .response 0 b).inbound.responses = r :: []) ∧
    ((at_ .dataSlot 0 b).link.unit = .sending .dataSlot ∧ (at_ .dataSlot 0 b).inbound.dataSlot = some d) ∧
    ((at_ .control 0 b).link.unit = .sending .control ∧ (at_ .control 0 b).member.control = x :: [] ∧
      x.kind = .hello .online true ∧ (at_ .control 0 (inState .leaving b)).member.state = .leaving ∧
      (at_ .control 0 b).member.state ≠ .leaving) ∧
    (3 ≤ (at_ .control 3 b).link.garble ∧ joined.link.unit = .waiting) ∧ (∀ f : FrameRef, joined.link.unit ≠ .sending f) :=
  ⟨by decide +kernel, by decide +kernel, by decide +kernel, by decide +kernel, by decide +kernel, by decide +kernel,
    by decide +kernel, fun f h => UnitState.noConfusion h⟩

theorem witness_DeadlineQuarantines :
    let s (mark : Bool) : State := pulling.setEntry 3 { pulling.entry 3 with landingMark := mark, deadline := some 0 }
    let t := pulling.setEntry 3 { pulling.entry 3 with state := .abandoned, deadline := some 0 }
    ((s false).host.resetLow = false ∧ ((s false).entry 3).state = .live ∧ ((s false).entry 3).deadline = some 0 ∧
      ((s false).entry 3).landingMark = false) ∧
    (((s true).entry 3).state = .live ∧ ((s true).entry 3).deadline = some 0 ∧ ((s true).entry 3).landingMark = true) ∧
    ((t.entry 3).state = .abandoned ∧ (t.entry 3).deadline = some 0) ∧ (pulling.entry 3).deadline ≠ some 0 := by
  decide +kernel

theorem witness_ExpiriesReturnWork :
    let q := up.setEntry 31 { state := .quarantined, quarantine := some 0 }
    let x : SegRecord := { state := .backoff 0, offset := 0, length := 256, busy := 1 }
    let b := up.setChannel 5 { desc := pull, state := .running, records := [x, x, x, x] }
    let n := up.setChannel 5 { desc := pull, state := .notifying, notice := some { phase := .backoff 0 } }
    let h := up.setSlot { peer := 9, state := .sending (.backoff 0) }
    let l : State := { inState .listening up with member := { (inState .listening up).member with listen := some 0 } }
    let beat (us : Nat) : State := { joined with member := { joined.member with heartbeat := .running us } }
    (up.host.resetLow = false ∧ (q.entry 31).state = .quarantined ∧ (q.entry 31).quarantine = some 0) ∧
    ((b.channel 5).records[(3 : Fin 4).val]? = some x ∧ x.state = .backoff 0) ∧
    ((n.channel 5).notice = some { phase := .backoff 0 }) ∧ (h.notices.slot.state = .sending (.backoff 0)) ∧
    (l.member.state = .listening ∧ l.member.listen = some 0 ∧ up.member.listen ≠ some 0) ∧
    ((beat 10000).member.heartbeat = .running 10000 ∧ (beat 10000).member.tHb.toNat * 1000 ≤ 10000 ∧
      (beat 10000).member.state = .online ∧ (beat 10000).member.control = [] ∧
      (ControlKind.hello .online true).holdsBack = true ∧ 9999 < (beat 9999).member.tHb.toNat * 1000) := by decide +kernel

theorem witness_DrainEndAndHeldAnswer :
    let s : State := { inState .leaving joined with member := { (inState .leaving joined).member with drain := some 0 } }
    let a : Response := { dest := 9, tag := 2, answer := .ack }
    let held (rs : List Response) : State := { joined with inbound := { joined.inbound with
      engine := .answering a, queue := [inWrite], responses := rs } }
    (s.host.resetLow = false ∧ s.member.state = .leaving ∧ s.member.drain ≠ none ∧ s.trackerQuiet = true ∧
      s.inbound.queue = [] ∧ s.inbound.responses = [] ∧ s.inbound.dataSlot = none) ∧
    (joined.member.state ≠ .leaving ∧ pulling.trackerQuiet = false) ∧
    ((held []).inbound.engine = .answering a ∧ (held fullResponses.tail).inbound.responses.length < 8 ∧
      8 ≤ (held fullResponses).inbound.responses.length) ∧ joined.inbound.engine = .idle := by decide +kernel

theorem witness_DrainLimitEndsTheDrain :
    let s : State := { inState .leaving pulling with member := { (inState .leaving pulling).member with drain := some 0 } }
    s.host.resetLow = false ∧ s.member.state = .leaving ∧ s.member.drain = some 0 ∧ (s.entry 3).owner = .channel 0 ∧
      (s.entry 3).state = .live ∧ s.rx.buffer = [] := by decide +kernel

theorem witness_SilenceLosesThePeer :
    let s (us : Nat) : State := pulling.setRoster 9 { presence := .present us }
    ((s 30000).host.resetLow = false ∧ ((s 30000).rosterEntry 9).presence = .present 30000 ∧ (s 30000).member.tHb ≠ 0 ∧
      3 * ((s 30000).member.tHb.toNat * 1000) ≤ 30000 ∧ (s 30000).rx.buffer = [] ∧ ((s 30000).entry 3).peer = 9 ∧
      ((s 30000).entry 3).state = .live ∧ ((s 30000).entry 3).owner = .channel 0 ∧ ((s 30000).channel 0).notice = none ∧
      ∃ r ∈ ((s 30000).channel 0).records, r.state = .outstanding 3) ∧ 29999 < 3 * ((s 29999).member.tHb.toNat * 1000) ∧
    (up.setRoster 30 { presence := .present 30000 }).isPresent 30 = true := by decide +kernel

/-- Windows as R11 lays them out, with records before and after the one that has a result. -/
theorem witness_SegmentOutcomes :
    let seg (st : SegState) (offset attempts busy : Nat) : SegRecord :=
      { state := st, offset := offset, length := 256, attempts := attempts, busy := busy }
    let window_ (d : Descriptor) (front : Nat) (l : List SegRecord) : Channel :=
      { pulling.channel 0 with desc := d, front := front, records := l }
    let r := seg (.outstanding 3) 0 1 14
    let done := seg .done 256 0 0
    let later := seg (.outstanding 4) 256 2 15
    let end_ : SegRecord := { state := .outstanding 3, offset := 384, length := 256 }
    let two := pulling.setChannel 0 (window_ pull 0 [r, later])
    let run := pulling.setChannel 0 (window_ pull 0 [r, done])
    let last (d : Descriptor) : State := pulling.setChannel 0 (window_ d 384 [end_])
    ((two.channel 0).notice = none ∧ (two.channel 0).records = [] ++ r :: [later] ∧ r.state = .outstanding 3 ∧
      (∀ x ∈ ([] ++ [later] : List SegRecord), x.state ≠ .outstanding 3) ∧
      r.attempts < (two.channel 0).desc.retryLimit.toNat ∧ r.busy < 15 ∧ (two.channel 0).desc.errIrq = true) ∧
    ((two.channel 0).records = [r] ++ later :: [] ∧ (∀ x ∈ ([r] ++ [] : List SegRecord), x.state ≠ .outstanding 4) ∧
      (two.channel 0).desc.retryLimit.toNat ≤ later.attempts ∧ 15 ≤ later.busy ∧ r.state ≠ .done ∧
      (two.channel 0).front < (two.channel 0).desc.length.toNat) ∧
    ((run.channel 0).records = [] ++ r :: ([done] ++ []) ∧ r.offset = (run.channel 0).front ∧ 0 < r.length ∧
      (∀ x ∈ [done], x.state = .done) ∧ 512 < (run.channel 0).desc.length.toNat ∧
      (run.channel 0).desc.remote.toNat + 512 < 0x1000000) ∧
    Tiles ((run.channel 0).front + r.length) 512 [done] ∧
    (((last pull).channel 0).records = [] ++ end_ :: ([] ++ []) ∧ end_.offset = ((last pull).channel 0).front ∧
      ((last pull).channel 0).front + end_.length = ((last pull).channel 0).desc.length.toNat ∧
      ((last pull).channel 0).desc.endNotice = false ∧ ((last pull).channel 0).desc.reload = false ∧
      ((last pull).channel 0).desc.endIrq = true) ∧
    (((last { pull with endNotice := true }).channel 0).desc.endNotice = true ∧
      ((last { pull with reload := true, endIrq := false }).channel 0).desc.reload = true ∧
      ((last { pull with reload := true, endIrq := false }).channel 0).desc.endIrq = false) :=
  ⟨by decide +kernel, by decide +kernel, by decide +kernel, ⟨by decide +kernel, by decide, rfl⟩, by decide +kernel,
    by decide +kernel⟩

/-- The end notice within its limits and beyond them. -/
theorem witness_SegmentOutcomes_endNotice :
    let notifying (busy attempts : Nat) (d : Descriptor) : State :=
      let s := channelIn 1 .notifying d joined
      s.setChannel 1 { s.channel 1 with notice := some { phase := .tagged 6, busy := busy, attempts := attempts } }
    (((notifying 14 1 pull).channel 1).notice = some { phase := .tagged 6, busy := 14, attempts := 1 } ∧
      1 < ((notifying 14 1 pull).channel 1).desc.retryLimit.toNat ∧ ((notifying 14 1 pull).channel 1).desc.reload = false ∧
      ((notifying 14 1 pull).channel 1).desc.errIrq = true) ∧
    ((notifying 15 2 pull).channel 1).desc.retryLimit.toNat ≤ 2 ∧
    ((notifying 15 2 { pull with reload := true }).channel 1).desc.reload = true := by decide +kernel

theorem witness_BusGrantsAndWords :
    let r : BurstRequest := { dir := .write, mode := .increment, first := 0x20004000, count := 2, data := [1, 2] }
    let b : Burst := { requester := .landing, req := r }
    let p (f : Port → Port) : State := { up with port := f { up.port with state := .requesting } }
    ((p id).host.resetLow = false ∧ (p id).port.state = .requesting ∧ (p id).port.tail = none ∧
      (p id).port.fetches = [] ∧ (p fun x => { x with landing := some r }).port.landing = some r ∧
      (p fun x => { x with service := some r }).port.landing = none ∧
      (p fun x => { x with fetches := [(0, r)] }).port.fetches = (0, r) :: [] ∧ up.port.state ≠ .requesting) ∧
    ((inBurst b up).port.state = .burst b ∧ b.done + 1 < b.req.count ∧ b.req.dir = .write ∧
      b.req.count ≤ { b with done := 1 }.done + 1) ∧
    (let q : Burst := { b with req := { r with dir := .read } }
     (inBurst q up).port.state = .burst q ∧ q.done + 1 < q.req.count ∧ q.req.dir = .read) ∧
    ({ up with port := { up.port with tail := some b.current } }.port.tail = some b.current ∧ up.port.state = .free) := by
  decide +kernel

theorem witness_BurstsEnd :
    let one (q : Requester) (d : BusDir) : Burst :=
      { requester := q, req := { dir := d, mode := .increment, first := 0, count := 1, data := [7] } }
    let f : Frame := ⟨5, 9, .readData 3 false 0 [1, 2, 3, 4]⟩
    let landing := received f (pulling.setEntry 3 { pulling.entry 3 with landingMark := true })
    let writing := { joined with inbound := { joined.inbound with engine := .writing, queue := [inWrite] } }
    ((inBurst (one .landing .write) landing).port.state = .burst (one .landing .write) ∧
      (one .landing .write).done + 1 = (one .landing .write).req.count ∧ (one .landing .write).cancelled = false ∧
      landing.landingTag = some 3 ∧ landing.rx.buffer = f :: []) ∧
    ({ one .service .write with cancelled := true }.cancelled = true) ∧
    ((one (.fetch 0) .read).requester = .fetch 0 ∧ (one (.fetch 0) .read).req.dir = .read) ∧
    (writing.inbound.engine = .writing ∧ writing.inbound.queue = inWrite :: [] ∧ writing.inbound.responses.length < 8) ∧
    (let full : State := { writing with inbound := { writing.inbound with responses := fullResponses } }
     full.inbound.engine = .writing ∧ full.inbound.queue = inWrite :: [] ∧ 8 ≤ full.inbound.responses.length) ∧
    (let reading (n : Nat) : State :=
       { joined with inbound := { joined.inbound with engine := .reading n, queue := [inRead 128] } }
     (reading 0).inbound.engine = .reading 0 ∧ (reading 0).inbound.queue = inRead 128 :: [] ∧
       ¬ (inRead 128).length ≤ 0 + 64 ∧ (reading 64).inbound.engine = .reading 64 ∧ (inRead 128).length ≤ 64 + 64 ∧
       (one .service .read).req.dir = .read) ∧
    (let end_ : Frame := ⟨5, 9, .readData 3 true 0 [1, 2, 3, 4]⟩
     let s := received end_ (pulling.setEntry 3 { pulling.entry 3 with landingMark := true })
     s.landingTag = some 3 ∧ s.rx.buffer = end_ :: [] ∧ end_.body = .readData 3 true 0 [1, 2, 3, 4]) ∧
    { one .service .write with done := 1 }.done + 1 ≠ (one .service .write).req.count := by decide +kernel

theorem witness_BusErrorEndsTheBurst :
    let one (q : Requester) (d : BusDir) : Burst :=
      { requester := q, req := { dir := d, mode := .increment, first := 0, count := 1, data := [7] } }
    let f : Frame := ⟨5, 9, .readData 3 false 0 [1, 2, 3, 4]⟩
    let landing := received f (pulling.setEntry 3 { pulling.entry 3 with landingMark := true })
    let reading := { joined with inbound := { joined.inbound with engine := .reading 0, queue := [inRead 64] } }
    ((inBurst (one .landing .write) landing).port.state = .burst (one .landing .write) ∧
      (one .landing .write).cancelled = false ∧ landing.landingTag = some 3 ∧ landing.rx.buffer = f :: [] ∧
      (∀ h : Tag, (landing.entry h).landingMark = true → h = 3) ∧ (landing.entry 3).owner = .channel 0 ∧ (landing.channel 0).notice = none ∧
      ((landing.channel 0).recordOf 3).isSome = true) ∧
    (let two := { landing with rx := { landing.rx with buffer := [f, ⟨5, 9, .ack 4⟩] } }
     two.landingTag = some 3 ∧ two.rx.buffer = f :: ⟨5, 9, .ack 4⟩ :: [] ∧
       (after .busError (inBurst (one .landing .write) two)).rx.stale = two.rx.stale + 1) ∧
    ((one (.fetch 0) .read).requester = .fetch 0) ∧
    (reading.inbound.engine = .reading 0 ∧ reading.inbound.queue = inRead 64 :: [] ∧ reading.inbound.responses.length < 8) ∧
    (8 ≤ { reading with inbound := { reading.inbound with responses := fullResponses } }.inbound.responses.length) ∧
    up.port.state = .free := by decide +kernel

/-- CH0's record is OUTSTANDING with tag 3, the one entry that CH0 owns. -/
theorem recordsMatch_pulling : RecordsMatch pulling := by
  have entries : ∀ (c : ChannelNo) (t : Tag), t ∈ outstandingTags (pulling.channel c).records ↔
      (pulling.entry t).owner = .channel c ∧ (pulling.entry t).kind ≠ .notice ∧
        ((pulling.entry t).state = .queued ∨ (pulling.entry t).state = .live) := by decide +kernel
  have once : ∀ c : ChannelNo, (outstandingTags (pulling.channel c).records).Nodup := by decide +kernel
  refine fun c => ⟨?_, once c, entries c⟩
  match c with
  | 0 => exact ⟨rfl, by decide +kernel, by decide +kernel, rfl, by decide, rfl⟩
  | 1 | 2 | 3 | 4 | 5 => exact ⟨rfl, rfl⟩

/-- A state in the middle of a transfer that meets every invariant, with the step that follows it. -/
theorem witness_invariants : TrackerTimers pulling ∧ NoAbsentPeer pulling ∧ OneQueued pulling ∧ WithinDepth pulling ∧
    WithinCapacity pulling ∧ OwnAbsent pulling ∧ WindowsAligned pulling ∧ FlagBits pulling ∧ GarbleBound pulling ∧
    RecordsMatch pulling ∧ step { pulling with pending := [.chAbort 0] } = exec (.chAbort 0) pulling ∧ completes (.chAbort 0) pulling = true := by
  refine ⟨?_, ?_, ?_, ?_, ?_, ?_, ?_, ?_, ?_, recordsMatch_pulling, rfl, ?_⟩
  · unfold TrackerTimers EntryTimers; decide +kernel
  · unfold NoAbsentPeer InFlight; decide +kernel
  · have none_queued : ∀ t : Tag, (pulling.entry t).state ≠ .queued := by decide +kernel
    exact fun c t u _ h _ _ => absurd h (none_queued t)
  · unfold WithinDepth; decide +kernel
  · unfold WithinCapacity; decide +kernel
  · exact ⟨by decide +kernel, fun h => absurd h (by decide +kernel)⟩
  · unfold WindowsAligned WindowAligned; decide +kernel
  · unfold FlagBits; decide +kernel
  · exact ⟨by decide +kernel, fun h => absurd h (by decide +kernel)⟩
  · decide +kernel

theorem witness_ConfigurationIsLocked : pulling.host.resetLow = false ∧ Instr.chAbort 0 ≠ .hardwareReset ∧
    completes (.chAbort 0) pulling = true ∧ pulling.member.state ≠ .offline ∧ (pulling.channel 0).state ≠ .off ∧
    (∀ v : Word, Instr.chAbort 0 ≠ .evtEnableWrite v) ∧
    (∀ w : Word, Instr.chAbort 0 ≠ .wordTransferEnd w ∧ Instr.chAbort 0 ≠ .burstEnd w) :=
  ⟨by decide +kernel, by decide, by decide +kernel, by decide +kernel, by decide +kernel, fun v h => Instr.noConfusion h,
    fun w => ⟨fun h => Instr.noConfusion h, fun h => Instr.noConfusion h⟩⟩

end Sys2Proof.Tests
end

section
/-!
The channel commands: what a refusal writes, what one channel's write leaves of the event flags, and CH_DISABLE.
-/

namespace Sys2Proof.Proofs

open Sys2Proof Sys2Proof.Machine Sys2Proof.Safety Sys2Proof.Laws

/-! ## Rules shared by the commands -/

/-- A refusal writes the record, its offset field 0, and the bit of CMD_REFUSED (R188, R189). -/
theorem refuse_eq_refusedCommand (s : State) (code : BitVec 8) (op : BitVec 3) (reason : RefusalReason) :
    s.refuse code op reason = refusedCommand s code op reason := rfl

@[simp] theorem setChannel_eventFlags (s : State) (c : ChannelNo) (x : Channel) :
    (s.setChannel c x).eventFlags = s.eventFlags := rfl

/-! ## CH_DISABLE -/

theorem chDisable_of_armed (op : BitVec 3) {c : ChannelNo} {s : State} (armed : (s.channel c).state = .armed) :
    State.chDisable op c s = s.setChannel c (s.channel c).disabled := by
  simp [State.chDisable, armed, State.modifyChannel]

theorem chDisable_of_not_armed (op : BitVec 3) {c : ChannelNo} {s : State} (notArmed : (s.channel c).state ≠ .armed) :
    State.chDisable op c s = refusedCommand s 0x15 op .wrongState := by
  simp [State.chDisable, notArmed, refuse_eq_refusedCommand]

/-- With RESET_N high the command acts on the channel its operand names. -/
theorem exec_chDisable_channel {s : State} (high : s.host.resetLow = false) (c : ChannelNo) :
    exec (.chDisable (BitVec.ofNat 3 c.val)) s = .next (State.chDisable (BitVec.ofNat 3 c.val) c s) := by
  calc exec (.chDisable (BitVec.ofNat 3 c.val)) s
      = execChDisable (BitVec.ofNat 3 c.val) s := rfl
    _ = .next (s.channelCommand 0x15 (BitVec.ofNat 3 c.val) (State.chDisable (BitVec.ofNat 3 c.val))) := takes_up high _
    _ = .next (State.chDisable (BitVec.ofNat 3 c.val) c s) := by rw [channelCommand_channel]

/-- Settles O18, by the two branches of the command's test for ARMED. -/
theorem chDisableTakesArmedToOff : Obligations.ChDisableTakesArmedToOff := by
  intro c s high op ch
  have run : exec (.chDisable op) s = .next (State.chDisable op c s) := exec_chDisable_channel high c
  constructor
  · intro armed
    refine ⟨s.setChannel c ch.disabled, ?_, ?_, ?_, setChannel_eventFlags s c _⟩
    · rw [run, chDisable_of_armed op armed]
    · rw [channel_setChannel_self]
    · rw [channel_setChannel_self, Channel.disabled]
  · intro notArmed
    rw [run, chDisable_of_not_armed op notArmed]

end Sys2Proof.Proofs
end

section
/-!
Serving peers: what a window holds, resolves and permits, and the verdict of the arrival checks, one equation for each check.
-/

namespace Sys2Proof.Proofs

open Sys2Proof Sys2Proof.Machine Sys2Proof.Safety Sys2Proof.Laws

/-! ## One window (R67) -/

theorem holds_iff (w : Window) (x : Nat) :
    w.holds x = true ↔ w.enable = true ∧ w.base.toNat ≤ x ∧ x < w.base.toNat + w.size.toNat := by
  simp [Window.holds, and_assoc]

theorem toNat_resolve (w : Window) (x : Nat) :
    (w.resolve x).toNat = (w.localBase.toNat + (x - w.base.toNat)) % 2 ^ 32 := by
  rw [Window.resolve, BitVec.toNat_add, BitVec.toNat_ofNat, Nat.add_mod_mod]

theorem permits_iff (w : Window) (src : StationNo) (write : Bool) :
    w.permits src write = true ↔
      w.sources.getLsbD src.toNat = true ∧ (w.access = 2 ∨ w.access = (if write then 1 else 0)) := by
  simp [Window.permits]

/-- The access codes that R67 lists, kind by kind: WRITE permits writes, READ permits reads. -/
theorem access_kind_iff (a : BitVec 2) (write : Bool) :
    a = (if write then 1 else 0) ↔ (write = false ∧ a = 0) ∨ (write = true ∧ a = 1) := by
  cases write <;> simp

theorem permits_of_no_sources {w : Window} (empty : w.sources = 0) (src : StationNo) (write : Bool) :
    w.permits src write = false := by
  simp [Window.permits, empty]

/-! ## The Window Table -/

/-- The tests of JOIN leave one window for an address, so the search of the table ends at it (R66). -/
theorem find_window_of_holds {s : State} (tests : WindowTests s) {n : Fin 8} {x : Nat}
    (held : (window s n).holds x = true) : s.inbound.windows.toList.find? (·.holds x) = some (window s n) := by
  obtain ⟨_, only⟩ := tests
  cases found : s.inbound.windows.toList.find? (·.holds x) with
  | none =>
    have member : window s n ∈ s.inbound.windows.toList := by simp [window, Vector.get_eq_getElem]
    exact absurd held (List.find?_eq_none.mp found _ member)
  | some w =>
    obtain ⟨i, hi, rfl⟩ := List.mem_iff_getElem.mp (List.mem_of_find?_eq_some found)
    have bound : i < 8 := by simpa using hi
    have here : s.inbound.windows.toList[i] = window s ⟨i, bound⟩ := by simp [window, Vector.get_eq_getElem]
    have heldHere : (s.inbound.windows.toList[i]).holds x = true :=
      List.find?_some (p := (Window.holds · x)) found
    rw [here] at heldHere ⊢
    rw [only _ n x heldHere held]

/-! ## The Response Queue and its room (R74) -/

theorem placeOrDrop_of_room {s : State} (room : s.inbound.responses.length < 8) (r : Response) :
    s.placeOrDrop r = { s with inbound := { s.inbound with responses := s.inbound.responses ++ [r] } } := by
  have notFull : s.responsesFull = false := decide_eq_false (Nat.not_le.mpr room)
  simp [State.placeOrDrop, notFull, State.placeResponse]

/-- A request that fails a check is refused with the check's reason. -/
theorem requestArrives_of_refused {s : State} {src : StationNo} {write : Bool} {addr : BitVec 24} {len : BitVec 16}
    {p : List Byte} {reason : RefuseReason} (verdict : s.arrivalCheck src write addr len p = .inl reason)
    (room : s.inbound.responses.length < 8) (g : Tag) :
    s.requestArrives src g write addr len p = { s with inbound := { s.inbound with
      responses := s.inbound.responses ++ [{ dest := src, tag := g, answer := .refuse reason }] } } := by
  rw [State.requestArrives, verdict]
  exact placeOrDrop_of_room room _

/-! ## The arrival checks in their order (R69 to R73) -/

theorem formatOk_iff (write : Bool) (addr : BitVec 24) (len : BitVec 16) (p : List Byte) :
    formatOk write addr len p = true ↔ FormatGood write addr len p := by
  have zero : len = 0#16 ↔ len.toNat = 0 := BitVec.toNat_eq
  cases write with
  | false => simp [formatOk, FormatGood, zero, and_assoc]
  | true => simp [formatOk, FormatGood, zero, and_assoc]

section
variable {s : State} {write : Bool} {addr : BitVec 24} {len : BitVec 16} {p : List Byte}

theorem arrivalCheck_of_not_online (away : s.member.state ≠ .online) (src : StationNo) :
    s.arrivalCheck src write addr len p = .inl .notOnline := by
  rw [State.arrivalCheck, if_pos away]

theorem arrivalCheck_of_bad_format (online : s.member.state = .online) (bad : ¬ FormatGood write addr len p)
    (src : StationNo) : s.arrivalCheck src write addr len p = .inl .badRequest := by
  have fails : formatOk write addr len p = false := Bool.eq_false_iff.mpr (mt (formatOk_iff write addr len p).mp bad)
  simp [State.arrivalCheck, online, fails]

theorem arrivalCheck_of_no_window (online : s.member.state = .online) (good : FormatGood write addr len p)
    (absent : s.inbound.windows.toList.find? (·.holds addr.toNat) = none) (src : StationNo) :
    s.arrivalCheck src write addr len p = .inl .outOfWindow := by
  simp [State.arrivalCheck, online, (formatOk_iff write addr len p).mpr good, absent]

/-- Past the format, in the window of the request's first byte: its last byte, then access, then room. -/
theorem arrivalCheck_of_window (online : s.member.state = .online) (good : FormatGood write addr len p) {w : Window}
    (found : s.inbound.windows.toList.find? (·.holds addr.toNat) = some w) (src : StationNo) :
    s.arrivalCheck src write addr len p =
      if !w.holds (addr.toNat + len.toNat - 1) then .inl .outOfWindow
      else if !w.permits src write then .inl .denied
      else if 8 ≤ s.inbound.queue.length then .inl .busy
      else .inr (w.resolve addr.toNat) := by
  rw [State.arrivalCheck, if_neg (not_not.mpr online), if_neg (by simp [(formatOk_iff write addr len p).mpr good]), found]
  rfl

/-- No later check answers BAD_REQUEST. -/
theorem arrivalCheck_badRequest_iff (online : s.member.state = .online) (src : StationNo) :
    s.arrivalCheck src write addr len p = .inl .badRequest ↔ ¬ FormatGood write addr len p := by
  refine ⟨fun verdict good => ?_, fun bad => arrivalCheck_of_bad_format online bad src⟩
  cases found : s.inbound.windows.toList.find? (·.holds addr.toNat) with
  | none => simp [arrivalCheck_of_no_window online good found] at verdict
  | some w =>
    rw [arrivalCheck_of_window online good found] at verdict
    split_ifs at verdict <;> simp at verdict

end

/-- Settles O31. Past the format, the one window that holds the first byte decides (`arrivalCheck_of_window`). -/
theorem arrivalChecksInOrder : Obligations.ArrivalChecksInOrder := by
  intro s src g write addr len p
  refine ⟨fun reason verdict room => requestArrives_of_refused verdict room g,
    fun away => arrivalCheck_of_not_online away src,
    fun online => ⟨arrivalCheck_badRequest_iff online src, fun good => ⟨fun outside => ?_, ?_⟩⟩⟩
  · exact arrivalCheck_of_no_window online good (find_window_none outside) src
  · intro n tests held last w allowed
    have verdict := arrivalCheck_of_window online good (find_window_of_holds tests held) src
    have permits : w.permits src write = true ↔ allowed := permits_iff w src write
    refine ⟨fun ends => ?_, fun ends denied => ?_, fun ends access full => ?_, fun ends access room => ?_⟩
    · rw [verdict, if_pos (by simpa using ends)]
    · rw [verdict, if_neg (by simpa using ends), if_pos (by simpa using mt permits.mp denied)]
    · rw [verdict, if_neg (by simpa using ends), if_neg (by simpa using permits.mpr access), if_pos full]
    · rw [verdict, if_neg (by simpa using ends), if_neg (by simpa using permits.mpr access), if_neg (Nat.not_le.mpr room),
        Window.resolve]

/-- Settles O30; its last clause is the access check of a window that no source set opens. -/
theorem windowsHoldResolveAndPermit : Obligations.WindowsHoldResolveAndPermit := by
  refine ⟨holds_iff, fun w x _ => toNat_resolve w x, fun w src write => ?_, ?_⟩
  · rw [permits_iff, access_kind_iff]
  · intro s n src g write addr len p online good tests empty first last room
    refine requestArrives_of_refused ?_ room g
    rw [arrivalCheck_of_window online good (find_window_of_holds tests first), if_neg (by simpa using last),
      if_pos (by simp [permits_of_no_sources empty src write])]

end Sys2Proof.Proofs
end

section
/-!
Notices: both resets give the Notice Unit, the Request Tracker and the latched flags their reset values, and these leave the
Host Notice Slot cleared.
-/

namespace Sys2Proof.Proofs

open Sys2Proof Sys2Proof.Machine Sys2Proof.Safety Sys2Proof.Laws

/-! ## What the reset values of the blocks say of the slot (R102) -/

section
variable {t : State}

theorem entry_free_of_reset_tracker (tracker : t.tracker = {}) (g : Tag) : (t.entry g).state = .free := by
  rw [State.entry, tracker, Vector.get_replicate]

theorem flag_clear_of_none_latched (latched : t.host.latched = 0) (f : EventFlag) : t.flag f = false := by
  rw [State.flag, latched]
  exact BitVec.getLsbD_zero

/-- The slot asks for a tag only while it is SENDING (R98). -/
theorem slotWaits_of_not_sending (quiet : t.notices.slot.state.isSending = false) : t.slotWaits = false := by
  have notWaiting : t.notices.slot.state ≠ .sending .waiting := fun h => by simp [h, SlotState.isSending] at quiet
  simp [State.slotWaits, notWaiting]

/-- Any state that holds the reset values of the three blocks holds the slot as R102 lists it. -/
theorem slot_cleared_of_reset_blocks (notices : t.notices = {}) (tracker : t.tracker = {}) (latched : t.host.latched = 0) :
    t.notices.slot = { peer := 0, code := 0, state := .idle, result := .none, reason := none, attempts := 0, busy := 0 } ∧
    t.slotWaits = false ∧ (∀ g : Tag, (t.entry g).state = .free) ∧ t.flag .hostNoticeDone = false := by
  have quiet : t.notices.slot.state.isSending = false := by rw [notices]; rfl
  exact ⟨by rw [notices], slotWaits_of_not_sending quiet, entry_free_of_reset_tracker tracker,
    flag_clear_of_none_latched latched _⟩

end

/-! ## The two resets -/

/-- With RESET_N high the command resets the station, whatever its operand (R198). -/
theorem exec_stationReset {s : State} (high : s.host.resetLow = false) (op : BitVec 3) :
    exec (.stationReset op) s = .next s.stationReset := by
  calc exec (.stationReset op) s
      = execStationReset op s := rfl
    _ = .next s.stationReset := takes_up high _

/-- The pin acts in every state (R195). -/
theorem exec_hardwareReset (s : State) : exec .hardwareReset s = .next s.hardwareReset := rfl

/-- Settles O10: each reset writes the three blocks that `slot_cleared_of_reset_blocks` reads, and keeps nothing of them. -/
theorem resetsClearTheSlot : Obligations.ResetsClearTheSlot := by
  constructor
  · intro s
    exact ⟨s.hardwareReset, exec_hardwareReset s, slot_cleared_of_reset_blocks rfl rfl rfl⟩
  · intro op s high
    exact ⟨s.stationReset, exec_stationReset high op, slot_cleared_of_reset_blocks rfl rfl rfl⟩

end Sys2Proof.Proofs
end

section
/-!
The diagnostic counters of the Frame Receiver: CLEAR_COUNTERS writes the three together, and both resets give the whole receiver
its reset value.
-/

namespace Sys2Proof.Proofs

open Sys2Proof Sys2Proof.Machine Sys2Proof.Safety Sys2Proof.Laws

/-- With RESET_N high the command clears the counters, whatever its operand (R194). -/
theorem exec_clearCounters {s : State} (high : s.host.resetLow = false) (op : BitVec 3) :
    exec (.clearCounters op) s = .next s.clearCounters := by
  calc exec (.clearCounters op) s
      = execClearCounters op s := rfl
    _ = .next s.clearCounters := takes_up high _

/-- Neither reset keeps anything of the receiver (R195, R198). -/
@[simp] theorem stationReset_rx (s : State) : s.stationReset.rx = {} := rfl

@[simp] theorem hardwareReset_rx (s : State) : s.hardwareReset.rx = {} := rfl

theorem counters_zero_of_reset_receiver {t : State} (rx : t.rx = {}) :
    t.rx.badFrame = 0 ∧ t.rx.stale = 0 ∧ t.rx.dropped = 0 := by
  rw [rx]
  exact ⟨rfl, rfl, rfl⟩

/-- Settles O12: the command's write is R194's, and each reset leaves the receiver that `counters_zero_of_reset_receiver` reads. -/
theorem clearCountersClearsAllThree : Obligations.ClearCountersClearsAllThree := by
  refine ⟨fun op s high => ?command, fun op s high => ?station, fun s => ?hardware⟩
  case command => rw [exec_clearCounters high op, State.clearCounters]
  case station =>
    exact ⟨s.stationReset, exec_stationReset high op, counters_zero_of_reset_receiver (stationReset_rx s)⟩
  case hardware =>
    exact ⟨s.hardwareReset, exec_hardwareReset s, counters_zero_of_reset_receiver (hardwareReset_rx s)⟩

end Sys2Proof.Proofs
end


section
/-!
The work inside a step, said once. `Work` lists the single writes that starts, dispatches, reports and releases make, each with
the condition under which they make it, and `Grant` the write of an allocation; every operation of `settle` is a chain of them
(`Inside`), so what such writes keep is kept by all of it.
-/

set_option Elab.async false

namespace Sys2Proof.Proofs

open Sys2Proof Sys2Proof.Machine Sys2Proof.Safety Sys2Proof.Laws

/-! ## The writes -/

/-- The clause of `WithinDepth` for one channel. -/
def ChannelBound (ch : Channel) : Prop :=
  ch.outstandingCount ≤ ch.desc.depth ∧ ch.records.length ≤ Config.segmentRecords ∧
    (ch.state = .off ∨ ch.state = .armed → ch.records = [])

/-- OFF, with nothing that a result, a start or a tag could reach. -/
structure Ended (ch : Channel) : Prop where
  off : ch.state = .off
  records : ch.records = []
  notice : ch.notice = none
  waiting : ch.waiting = false

/-- What the work inside a step does to a channel: it keeps the descriptor and the bounds, and of an ended channel at most the
payload changes. -/
structure ChannelWork (x y : Channel) : Prop where
  desc : y.desc = x.desc
  bound : ChannelBound x → ChannelBound y
  ended : Ended x → y = x ∨ y = { x with payload := none }

/-- What the work inside a step does to an entry that is not FREE (R42, R44, R47, R51, R52, R54, R55, R58). -/
inductive EntryWork : Entry → Entry → Prop
  | release {e : Entry} (queued : e.state = .queued) : EntryWork e e.freed
  | answered {e : Entry} (open_ : e.state = .live ∨ e.state = .abandoned) : EntryWork e e.freed
  | abandon {e : Entry} (live : e.state = .live) : EntryWork e e.abandon
  | quarantine {e : Entry} (open_ : e.state = .live ∨ e.state = .abandoned) (us : Micros) : EntryWork e (e.quarantined us)
  | landing {e : Entry} (live : e.state = .live) : EntryWork e { e with landingMark := true }

/-- One write of the work inside a step, allocation aside. -/
inductive Work : State → State → Prop
  | port (s : State) (p : Port) : Work s { s with port := p }
  | link (s : State) (l : LinkUnit) (garble : l.garble = s.link.garble)
      (unit : l.unit = s.link.unit ∨ l.unit = .waiting) : Work s { s with link := l }
  | rx (s : State) (r : Receiver) (buffer : r.buffer = s.rx.buffer ∨ r.buffer = s.rx.buffer.tail)
      (badFrame : r.badFrame = s.rx.badFrame) : Work s { s with rx := r }
  | entry (s : State) (g : Tag) (e : Entry) (move : EntryWork (s.entry g) e) : Work s (s.setEntry g e)
  | order (s : State) (l : List Tag) : Work s { s with tracker := { s.tracker with queued := l } }
  | channel (s : State) (c : ChannelNo) (x : Channel) (move : ChannelWork (s.channel c) x) : Work s (s.setChannel c x)
  | raise (s : State) (f : EventFlag) : Work s (s.raise f)
  | slot (s : State) (x : Slot) (sending : s.notices.slot.state.isSending = true) : Work s (s.setSlot x)
  | notice (s : State) (src : StationNo) (code : BitVec 16) (online : s.member.state = .online)
      (room : s.notices.queue.length < Config.noticeQueueSize) : Work s (s.appendNotice src code)
  | respond (s : State) (r : Response) (room : s.inbound.responses.length < Config.responseQueueSize) :
      Work s (s.placeResponse r)
  | enqueue (s : State) (r : InRequest) (online : s.member.state = .online)
      (room : s.inbound.queue.length < Config.inboundQueueSize) :
      Work s { s with inbound := { s.inbound with queue := s.inbound.queue ++ [r] } }
  | engine (s : State) (e : Engine) (idle : s.inbound.engine = .idle) (head : s.inbound.queue ≠ []) : Work s (s.setEngine e)

/-- The write of an allocation: the entry of a FREE tag becomes QUEUED for an owner that has none (R13, R25, R36, R39). -/
inductive Grant : State → State → Prop
  | queue (s : State) (g : Tag) (e : Entry) (free : (s.entry g).state = .free) (queued : e.state = .queued)
      (timers : EntryTimers e) (present : s.isPresent e.peer = true)
      (alone : ∀ c : ChannelNo, e.owner = .channel c → s.ownsQueued (.channel c) = false ∧ (s.channel c).state ≠ .off) :
      Grant s (s.setEntry g e)

/-- A chain of writes without an allocation. -/
abbrev Working : State → State → Prop := Relation.ReflTransGen Work

/-- A chain of writes, allocations among them. -/
abbrev Inside : State → State → Prop := Relation.ReflTransGen fun s t => Work s t ∨ Grant s t

theorem Working.inside {s t : State} (h : Working s t) : Inside s t := Relation.ReflTransGen.mono (fun _ _ => .inl) _ _ h

theorem Grant.inside {s t : State} (h : Grant s t) : Inside s t := .single (.inr h)

theorem Working.foldl {α : Type} (f : State → α → State) (hf : ∀ s a, Working s (f s a)) (l : List α) (s : State) :
    Working s (l.foldl f s) := by
  induction l generalizing s with
  | nil => exact .refl
  | cons a l ih => exact (hf s a).trans (ih (f s a))

/-- What every single write keeps, a chain keeps. -/
theorem Inside.keeps {P : State → Prop} (work : ∀ s t, Work s t → P s → P t) (grant : ∀ s t, Grant s t → P s → P t)
    {s t : State} (h : Inside s t) (hs : P s) : P t := by
  induction h with
  | refl => exact hs
  | tail _ step ih => exact step.elim (fun w => work _ _ w ih) fun g => grant _ _ g ih

theorem Working.keeps {P : State → Prop} (work : ∀ s t, Work s t → P s → P t) {s t : State} (h : Working s t) (hs : P s) :
    P t := by
  induction h with
  | refl => exact hs
  | tail _ step ih => exact work _ _ step ih

/-! ## The link and the port -/

section
variable (s : State)

theorem stopDriving_working : Working s s.stopDriving := .single (.link s _ rfl (.inr rfl))

theorem rxSkip_working : Working s s.rxSkip := by
  unfold State.rxSkip
  split
  · exact .single (.rx s _ (.inl rfl) rfl)
  · exact .refl

/-- The end of a send writes the spent flag and a level pointer only (R134, R135). -/
theorem afterSend_eq (f : FrameRef) : ∃ l : LinkUnit, s.afterSend f = { s with link := l } ∧ l.unit = s.link.unit ∧
    l.garble = s.link.garble ∧ l.idle = s.link.idle := by
  unfold State.afterSend
  cases f with
  | entry t => dsimp only; (repeat' split) <;> exact ⟨_, rfl, rfl, rfl, rfl⟩
  | response => exact ⟨_, rfl, rfl, rfl, rfl⟩
  | dataSlot => exact ⟨_, rfl, rfl, rfl, rfl⟩
  | control => exact ⟨_, rfl, rfl, rfl, rfl⟩

theorem afterSend_working (f : FrameRef) : Working s (s.afterSend f) := by
  obtain ⟨l, eq, unit, garble, -⟩ := afterSend_eq s f
  rw [eq]
  exact .single (.link s l garble (.inl unit))

theorem cutShort_working (f : FrameRef) : Working s (s.cutShort f) :=
  ((afterSend_working s f).trans (stopDriving_working _)).trans (rxSkip_working _)

theorem letGo_working (f : FrameRef) : Working s (s.letGo f) := by
  unfold State.letGo
  split
  · exact .refl
  · split
    · exact stopDriving_working s
    · exact .refl
  · split
    · exact cutShort_working s f
    · exact .refl

theorem silence_working : Working s s.silence := by
  unfold State.silence
  split
  · exact .refl
  · exact stopDriving_working s
  · exact cutShort_working s _

/-- Letting go of a frame writes the link and the receiver only. -/
theorem letGo_eq (f : FrameRef) : ∃ (l : LinkUnit) (r : Receiver), s.letGo f = { s with link := l, rx := r } ∧
    r.buffer = s.rx.buffer := by
  have cut : ∃ (l : LinkUnit) (r : Receiver), s.cutShort f = { s with link := l, rx := r } ∧ r.buffer = s.rx.buffer := by
    obtain ⟨l, eq, -⟩ := afterSend_eq s f
    rw [State.cutShort, eq, State.stopDriving, State.rxSkip]
    split <;> exact ⟨_, _, rfl, rfl⟩
  unfold State.letGo
  split
  · exact ⟨_, _, rfl, rfl⟩
  · split <;> exact ⟨_, _, rfl, rfl⟩
  · split
    · exact cut
    · exact ⟨_, _, rfl, rfl⟩

theorem silence_eq : ∃ (l : LinkUnit) (r : Receiver), s.silence = { s with link := l, rx := r } ∧
    l.unit = .waiting ∧ l.garble = s.link.garble ∧ r.buffer = s.rx.buffer := by
  unfold State.silence
  split
  · next h => exact ⟨_, _, rfl, h, rfl, rfl⟩
  · exact ⟨_, _, rfl, rfl, rfl, rfl⟩
  · next f _ =>
    obtain ⟨l, eq, -, garble, -⟩ := afterSend_eq s f
    rw [State.cutShort, eq, State.stopDriving, State.rxSkip]
    split <;> exact ⟨_, _, rfl, rfl, garble, rfl⟩

@[simp] theorem letGo_tracker (f : FrameRef) : (s.letGo f).tracker = s.tracker := by
  obtain ⟨l, r, eq, -⟩ := letGo_eq s f; rw [eq]
@[simp] theorem letGo_channels (f : FrameRef) : (s.letGo f).channels = s.channels := by
  obtain ⟨l, r, eq, -⟩ := letGo_eq s f; rw [eq]
@[simp] theorem letGo_port (f : FrameRef) : (s.letGo f).port = s.port := by
  obtain ⟨l, r, eq, -⟩ := letGo_eq s f; rw [eq]
@[simp] theorem letGo_inbound (f : FrameRef) : (s.letGo f).inbound = s.inbound := by
  obtain ⟨l, r, eq, -⟩ := letGo_eq s f; rw [eq]
@[simp] theorem letGo_buffer (f : FrameRef) : (s.letGo f).rx.buffer = s.rx.buffer := by
  obtain ⟨l, r, eq, buffer⟩ := letGo_eq s f; rw [eq]; exact buffer
@[simp] theorem letGo_entry (f : FrameRef) (g : Tag) : (s.letGo f).entry g = s.entry g := entry_congr (letGo_tracker s f) g
@[simp] theorem letGo_channel (f : FrameRef) (c : ChannelNo) : (s.letGo f).channel c = s.channel c :=
  channel_congr (letGo_channels s f) c

theorem endLanding_working (t : Tag) : Working s (s.endLanding t) := by
  unfold State.endLanding
  split
  · exact (Relation.ReflTransGen.single (.port s _)).tail (.rx _ _ (.inr rfl) rfl)
  · exact .refl

@[simp] theorem endLanding_tracker (t : Tag) : (s.endLanding t).tracker = s.tracker := by
  unfold State.endLanding; split <;> rfl
@[simp] theorem endLanding_channels (t : Tag) : (s.endLanding t).channels = s.channels := by
  unfold State.endLanding; split <;> rfl
@[simp] theorem endLanding_link (t : Tag) : (s.endLanding t).link = s.link := by
  unfold State.endLanding; split <;> rfl
@[simp] theorem endLanding_entry (t g : Tag) : (s.endLanding t).entry g = s.entry g := entry_congr (endLanding_tracker s t) g
@[simp] theorem endLanding_channel (t : Tag) (c : ChannelNo) : (s.endLanding t).channel c = s.channel c :=
  channel_congr (endLanding_channels s t) c

/-! ## One channel -/

theorem ChannelWork.refl (x : Channel) : ChannelWork x x := ⟨rfl, id, fun _ => .inl rfl⟩

theorem ChannelWork.payload_none (x : Channel) : ChannelWork x { x with payload := none } :=
  ⟨rfl, id, fun _ => .inr rfl⟩

/-- A channel that is not ended may be written in any way that keeps descriptor and bounds. -/
theorem ChannelWork.of_not_ended {x y : Channel} (desc : y.desc = x.desc) (bound : ChannelBound x → ChannelBound y)
    (active : ¬ Ended x) : ChannelWork x y := ⟨desc, bound, fun h => absurd h active⟩

theorem channelBound_no_records {ch : Channel} (none : ch.records = []) : ChannelBound ch := by
  simp [ChannelBound, Channel.outstandingCount, none]

theorem modifyChannel_working {c : ChannelNo} {f : Channel → Channel} (move : ChannelWork (s.channel c) (f (s.channel c))) :
    Working s (s.modifyChannel c f) := .single (.channel s c _ move)

theorem raiseIf_working (p : Bool) (f : EventFlag) : Working s (s.raiseIf p f) := by
  unfold State.raiseIf
  split
  · exact .single (.raise s f)
  · exact .refl

/-! ## Releases -/

theorem dropFetch_working (e : Entry) : Working s (s.dropFetch e) := by
  unfold State.dropFetch
  split
  · exact (Relation.ReflTransGen.single (.port s _)).trans (modifyChannel_working _ (ChannelWork.payload_none _))
  · exact .refl

@[simp] theorem dropFetch_tracker (e : Entry) : (s.dropFetch e).tracker = s.tracker := by
  unfold State.dropFetch; split <;> rfl
@[simp] theorem dropFetch_link (e : Entry) : (s.dropFetch e).link = s.link := by
  unfold State.dropFetch; split <;> rfl
@[simp] theorem dropFetch_rx (e : Entry) : (s.dropFetch e).rx = s.rx := by
  unfold State.dropFetch; split <;> rfl
@[simp] theorem dropFetch_entry (e : Entry) (g : Tag) : (s.dropFetch e).entry g = s.entry g :=
  entry_congr (dropFetch_tracker s e) g

theorem freeQueued_working {t : Tag} (queued : (s.entry t).state = .queued) : Working s (s.freeQueued t) := by
  have free : Work ((s.letGo (.entry t)).dropFetch (s.entry t))
      (((s.letGo (.entry t)).dropFetch (s.entry t)).setEntry t (s.entry t).freed) :=
    .entry _ t _ (by simpa using EntryWork.release queued)
  exact (((letGo_working s _).trans (dropFetch_working _ _)).tail free).tail (.order _ _)

theorem releaseEntry_working (t : Tag) : Working s (s.releaseEntry t) := by
  unfold State.releaseEntry
  split
  · next queued => exact freeQueued_working s queued
  · next live => exact (endLanding_working s t).tail (.entry _ t _ (by simpa using EntryWork.abandon live))
  · exact .refl

theorem releaseOwner_working (o : Owner) : Working s (s.releaseOwner o) := by
  refine Working.foldl _ (fun s t => ?_) _ s
  split
  · exact releaseEntry_working s t
  · exact .refl

theorem quarantineEntry_working {t : Tag} (open_ : (s.entry t).state = .live ∨ (s.entry t).state = .abandoned) :
    Working s (s.quarantineEntry t) :=
  (endLanding_working s t).tail (.entry _ t _ (by simpa using EntryWork.quarantine open_ _))

theorem purgeEntry_working (t : Tag) : Working s (s.purgeEntry t) := by
  unfold State.purgeEntry
  split
  · next queued => exact freeQueued_working s queued
  · next live => exact quarantineEntry_working s (.inl live)
  · next abandoned => exact quarantineEntry_working s (.inr abandoned)
  · exact .refl
  · exact .refl

/-- Releases write of a channel at most the payload. -/
theorem freeQueued_channel (t : Tag) (c : ChannelNo) :
    (s.freeQueued t).channel c = s.channel c ∨ (s.freeQueued t).channel c = { s.channel c with payload := none } := by
  have drop : ∀ u : State, (u.dropFetch (s.entry t)).channel c = u.channel c ∨
      (u.dropFetch (s.entry t)).channel c = { u.channel c with payload := none } := by
    intro u
    unfold State.dropFetch
    split
    · rw [channel_modifyChannel]
      split
      · next e => subst e; exact .inr rfl
      · exact .inl rfl
    · exact .inl rfl
  simpa [State.freeQueued, State.setEntry, State.dequeueTag, State.channel] using drop (s.letGo (.entry t))

theorem releaseEntry_channel (t : Tag) (c : ChannelNo) :
    (s.releaseEntry t).channel c = s.channel c ∨ (s.releaseEntry t).channel c = { s.channel c with payload := none } := by
  unfold State.releaseEntry
  split
  · exact freeQueued_channel s t c
  · exact .inl (endLanding_channel s t c)
  · exact .inl rfl

theorem releaseOwner_channel (o : Owner) (c : ChannelNo) :
    (s.releaseOwner o).channel c = s.channel c ∨ (s.releaseOwner o).channel c = { s.channel c with payload := none } := by
  unfold State.releaseOwner
  generalize allTags = l
  induction l generalizing s with
  | nil => exact .inl rfl
  | cons t l ih =>
    have first : (if (s.entry t).held o then s.releaseEntry t else s).channel c = s.channel c ∨
        (if (s.entry t).held o then s.releaseEntry t else s).channel c = { s.channel c with payload := none } := by
      split
      · exact releaseEntry_channel s t c
      · exact .inl rfl
    rcases first with h | h <;> rcases ih (if (s.entry t).held o then s.releaseEntry t else s) with k | k <;>
      simp [List.foldl_cons, k, h]

theorem not_ended_releaseOwner {c : ChannelNo} (active : ¬ Ended (s.channel c)) (o : Owner) :
    ¬ Ended ((s.releaseOwner o).channel c) := by
  rcases releaseOwner_channel s o c with h | h
  · rwa [h]
  · rw [h]
    exact fun e => active ⟨e.off, e.records, e.notice, e.waiting⟩

/-- The end of a channel: its entries released, the channel OFF, CH_ERR where it is enabled (R23, R27). -/
theorem endChannel_eq (c : ChannelNo) (k : TermCode) (r : Option RefuseReason) :
    s.endChannel c k r = ((s.releaseOwner (.channel c)).modifyChannel c fun ch => ch.ended k r).raiseIf
      (s.channel c).desc.errIrq (.chErr c) := by
  have kept : ((s.releaseOwner (.channel c)).channel c).desc = (s.channel c).desc := by
    rcases releaseOwner_channel s (.channel c) c with h | h <;> rw [h]
  rw [State.endChannel, kept]

/-- The end of a channel that is not ended already (R23, R28). -/
theorem endChannel_working {c : ChannelNo} (active : ¬ Ended (s.channel c)) (k : TermCode) (r : Option RefuseReason) :
    Working s (s.endChannel c k r) := by
  rw [endChannel_eq]
  have released := releaseOwner_working s (.channel c)
  have left := not_ended_releaseOwner s active (.channel c)
  generalize s.releaseOwner (.channel c) = u at released left
  exact (released.trans (modifyChannel_working u
    (.of_not_ended rfl (fun _ => channelBound_no_records rfl) left))).trans (raiseIf_working _ _ _)

/-! ## Results -/

/-- A NORMAL end writes its channel, which holds no record after it, and raises a flag at most. -/
theorem normalEnd_eq (c : ChannelNo) : ∃ y : Channel,
    s.normalEnd c = (s.setChannel c y).raiseIf (s.channel c).desc.endIrq (.chEnd c) ∧
      y.desc = (s.channel c).desc ∧ y.records = [] := by
  refine ⟨if (s.channel c).desc.reload then (s.channel c).reloaded else (s.channel c).ended .normal none, rfl, ?_, ?_⟩ <;>
    split <;> rfl

theorem normalEnd_working {c : ChannelNo} (active : ¬ Ended (s.channel c)) : Working s (s.normalEnd c) := by
  obtain ⟨y, eq, desc, records⟩ := normalEnd_eq s c
  rw [eq]
  exact (Relation.ReflTransGen.single (.channel s c y (.of_not_ended desc (fun _ => channelBound_no_records records) active))).trans
    (raiseIf_working _ _ _)

/-- The end of a transfer writes its channel and raises a flag at most. -/
theorem transferEnd_eq (c : ChannelNo) : ∃ (y : Channel) (p : Bool),
    s.transferEnd c = (s.setChannel c y).raiseIf p (.chEnd c) ∧
      y.desc = (s.channel c).desc ∧ (ChannelBound (s.channel c) → ChannelBound y) := by
  unfold State.transferEnd
  dsimp only
  split
  · split
    · refine ⟨_, false, rfl, rfl, ?_⟩
      rintro ⟨count, length, -⟩
      exact ⟨count, length, fun h => by rcases h with h | h <;> cases h⟩
    · obtain ⟨y, eq, desc, records⟩ := normalEnd_eq s c
      exact ⟨y, _, eq, desc, fun _ => channelBound_no_records records⟩
  · exact ⟨_, false, (setChannel_same s c).symm, rfl, id⟩

end
/-- Rewriting records so that none becomes OUTSTANDING adds none to their number. -/
theorem outstanding_map_le (f : SegRecord → SegRecord) (hf : ∀ r, (f r).isOutstanding = true → r.isOutstanding = true)
    (l : List SegRecord) : ((l.map f).filter SegRecord.isOutstanding).length ≤ (l.filter SegRecord.isOutstanding).length := by
  induction l with
  | nil => simp
  | cons r l ih =>
    by_cases h : (f r).isOutstanding = true
    · simpa [h, hf r h] using ih
    · by_cases k : r.isOutstanding = true
      · simpa [h, k] using Nat.le_succ_of_le ih
      · simpa [h, k] using ih

theorem updateRecord_bound {ch : Channel} (t : Tag) {f : SegRecord → SegRecord} (hf : ∀ r, (f r).isOutstanding = false)
    (h : ChannelBound ch) : ChannelBound (ch.updateRecord t f) := by
  obtain ⟨count, length, idle⟩ := h
  refine ⟨le_trans ?_ count, by simpa [Channel.updateRecord] using length, fun k => by simp [Channel.updateRecord, idle k]⟩
  refine outstanding_map_le _ (fun r h => ?_) _
  by_cases k : r.state = .outstanding t
  · simp [k, hf] at h
  · simpa [k] using h

/-- The records left by `popDone` are a rear part of the list. -/
theorem popDone_suffix (front : Nat) (l : List SegRecord) : (popDone front l).2 <:+ l := by
  induction l generalizing front with
  | nil => exact List.suffix_rfl
  | cons r l ih =>
    unfold popDone
    split
    · exact (ih _).trans (List.suffix_cons r l)
    · exact List.suffix_rfl

theorem advance_records (ch : Channel) : ch.advance.records <:+ ch.records := by
  unfold Channel.advance
  dsimp only
  split
  · exact List.suffix_rfl
  · exact popDone_suffix _ _

@[simp] theorem advance_state (ch : Channel) : ch.advance.state = ch.state := by
  unfold Channel.advance; dsimp only; split <;> rfl

@[simp] theorem advance_notice (ch : Channel) : ch.advance.notice = ch.notice := by
  unfold Channel.advance; dsimp only; split <;> rfl

theorem advance_bound {ch : Channel} (h : ChannelBound ch) : ChannelBound ch.advance := by
  obtain ⟨count, length, idle⟩ := h
  have sub := (advance_records ch).sublist
  refine ⟨?_, sub.length_le.trans length, fun k => ?_⟩
  · rw [advance_desc]
    exact ((sub.filter _).length_le).trans count
  · rw [advance_state] at k
    simpa [idle k] using sub

theorem not_ended_of_record {ch : Channel} {t : Tag} {r : SegRecord} (found : ch.recordOf t = some r) : ¬ Ended ch := by
  intro h
  simp [Channel.recordOf, h.records] at found

theorem not_ended_of_notice {ch : Channel} {n : NoticeRecord} (found : ch.notice = some n) : ¬ Ended ch := by
  intro h
  simp [h.notice] at found

theorem not_ended_of_state {ch : Channel} (h : ch.state ≠ .off) : ¬ Ended ch := fun e => h e.off

section
variable (s : State)

/-- The record that completes is DONE; where it is the last byte the transfer ends (R17, R24). -/
theorem completeSegment_working {c : ChannelNo} {t : Tag} {r : SegRecord} (found : (s.channel c).recordOf t = some r) :
    Working s (s.completeSegment c t) := by
  have active := not_ended_of_record found
  obtain ⟨y, p, eq, desc, bound⟩ :=
    transferEnd_eq (s.modifyChannel c fun ch => (ch.updateRecord t fun r => { r with state := .done }).advance) c
  rw [channel_modifyChannel_self, advance_desc] at desc
  rw [channel_modifyChannel_self] at bound
  rw [State.completeSegment, eq, State.modifyChannel, setChannel_setChannel]
  refine (Relation.ReflTransGen.single (.channel s c y (.of_not_ended desc (fun h => bound ?_) active))).trans
    (raiseIf_working _ _ _)
  exact advance_bound (updateRecord_bound t (fun _ => rfl) h)

theorem updateRecord_working {c : ChannelNo} {t : Tag} {r : SegRecord} (found : (s.channel c).recordOf t = some r)
    {f : SegRecord → SegRecord} (hf : ∀ r, (f r).isOutstanding = false) :
    Working s (s.modifyChannel c fun ch => ch.updateRecord t f) :=
  modifyChannel_working s (.of_not_ended rfl (updateRecord_bound t hf) (not_ended_of_record found))

theorem segmentResult_working {c : ChannelNo} {t : Tag} {r : SegRecord} (found : (s.channel c).recordOf t = some r)
    (res : Result) : Working s (s.segmentResult c t r res) := by
  have ends := endChannel_working s (not_ended_of_record found)
  have fails : ∀ k, Working s (s.failSegment c t r k) := fun k => by
    unfold State.failSegment
    split
    · exact updateRecord_working s found fun _ => rfl
    · exact ends _ _
  unfold State.segmentResult
  split
  · exact completeSegment_working s found
  · exact fails _
  · exact fails _
  · unfold State.busySegment
    split
    · exact updateRecord_working s found fun _ => rfl
    · exact ends _ _
  · exact ends _ _
  · exact ends _ _
  · exact ends _ _

theorem setNotice_working {c : ChannelNo} (active : ¬ Ended (s.channel c)) (n : NoticeRecord) :
    Working s (s.setNotice c n) := modifyChannel_working s (.of_not_ended rfl id active)

theorem noticeResult_working {c : ChannelNo} (active : ¬ Ended (s.channel c)) (n : NoticeRecord) (res : Result) :
    Working s (s.noticeResult c n res) := by
  have ends := endChannel_working s active
  have busy : ∀ reason, Working s (s.busyNotice c n reason) := fun reason => by
    unfold State.busyNotice
    split
    · exact setNotice_working s active _
    · exact ends _ _
  unfold State.noticeResult
  split
  · exact normalEnd_working s active
  · split
    · exact setNotice_working s active _
    · exact ends _ _
  · exact busy _
  · exact busy _
  · exact ends _ _
  · exact ends _ _
  · exact .refl
  · exact .refl

theorem channelResult_working (c : ChannelNo) (t : Tag) (res : Result) : Working s (s.channelResult c t res) := by
  unfold State.channelResult
  dsimp only
  split
  · next n found =>
    split
    · exact noticeResult_working s (not_ended_of_notice found) n res
    · exact .refl
  · split
    · next r found => exact segmentResult_working s found res
    · exact .refl

theorem finishSlot_working (sending : s.notices.slot.state.isSending = true) (x : SlotResult) (r : Option RefuseReason) :
    Working s (s.finishSlot x r) := (Relation.ReflTransGen.single (.slot s _ sending)).tail (.raise _ _)

theorem busySlot_working (sending : s.notices.slot.state.isSending = true) (r : RefuseReason) :
    Working s (s.busySlot r) := by
  unfold State.busySlot
  dsimp only
  split
  · exact .single (.slot s _ sending)
  · exact (Relation.ReflTransGen.single (.slot s _ sending)).tail (.raise _ _)

theorem slotResult_working (t : Tag) (res : Result) : Working s (s.slotResult t res) := by
  unfold State.slotResult
  dsimp only
  split
  · next tagged =>
    have sending : s.notices.slot.state.isSending = true := by rw [tagged]; rfl
    split
    · exact finishSlot_working s sending _ _
    · exact busySlot_working s sending _
    · exact busySlot_working s sending _
    · exact finishSlot_working s sending _ _
    · split
      · exact .single (.slot s _ sending)
      · exact (Relation.ReflTransGen.single (.slot s _ sending)).tail (.raise _ _)
    · exact finishSlot_working s sending _ _
    · exact .refl
    · exact .refl
  · exact .refl

/-- A result is a chain of writes of its owner, of what the owner releases, and of flags. -/
theorem report_working (o : Owner) (t : Tag) (res : Result) : Working s (s.report o t res) := by
  cases o with
  | channel c => exact channelResult_working s c t res
  | host => exact slotResult_working s t res

/-! ## Starts, asks, ends without a tag -/

theorem startIfDue_working (c : ChannelNo) : Working s (s.startIfDue c) := by
  unfold State.startIfDue
  split
  · next due =>
    have armed : (s.channel c).state = .armed := by simp [State.startDue] at due; exact due.1.1.1.1
    refine modifyChannel_working s (.of_not_ended rfl (fun h => ?_) (not_ended_of_state (by simp [armed])))
    obtain ⟨_, _, none⟩ := h
    exact channelBound_no_records (none (.inr armed))
  · exact .refl

theorem waiting_bound {ch : Channel} (b : Bool) (h : ChannelBound ch) : ChannelBound { ch with waiting := b } := h

/-- A cut adds a record that is PENDING, to fewer than four (R11). -/
theorem cut_bound {ch : Channel} (room : ch.canCut = true) (h : ChannelBound ch) (running : ch.state = .running) :
    ChannelBound ch.cut := by
  obtain ⟨count, -, -⟩ := h
  have short : ch.records.length < Config.segmentRecords := by
    simp only [Channel.canCut, Bool.and_eq_true, decide_eq_true_eq] at room
    exact room.1.2
  refine ⟨?_, ?_, fun k => ?_⟩
  · simpa [Channel.cut, Channel.outstandingCount, SegRecord.isOutstanding] using count
  · simpa [Channel.cut] using short
  · simp [Channel.cut, running] at k

theorem not_ended_of_wantsTag {c : ChannelNo} (wants : s.wantsTag c = true) : (s.channel c).state ≠ .off := by
  intro off
  simp [State.wantsTag, off] at wants

theorem askChannel_working (c : ChannelNo) : Working s (s.askChannel c) := by
  unfold State.askChannel
  split
  · next wants =>
    refine modifyChannel_working s (.of_not_ended ?_ (fun h => ?_) (not_ended_of_state (not_ended_of_wantsTag s wants)))
    · split <;> rfl
    · apply waiting_bound
      split
      · next cuts =>
        simp only [Bool.and_eq_true, decide_eq_true_eq] at cuts
        exact cut_bound cuts.2 h cuts.1
      · exact h
  · exact modifyChannel_working s ⟨rfl, id, fun e => .inl (by rw [← e.waiting])⟩

theorem sending_of_slotWaits (waits : s.slotWaits = true) : s.notices.slot.state.isSending = true := by
  simp only [State.slotWaits, Bool.and_eq_true, decide_eq_true_eq] at waits
  rw [waits.1]
  rfl

/-- What makes an owner able to end without a tag: a channel that is not ended, a slot that is SENDING. -/
def CanEnd (s : State) : Owner → Prop
  | .channel c => ¬ Ended (s.channel c)
  | .host => s.notices.slot.state.isSending = true

theorem canEnd_of_waits {o : Owner} (waits : s.waits o = true) : CanEnd s o := by
  cases o with
  | channel c =>
    simp only [State.waits, Bool.and_eq_true] at waits
    exact not_ended_of_state (not_ended_of_wantsTag s waits.2)
  | host => exact sending_of_slotWaits s waits

theorem dropOwner_working {o : Owner} (can : CanEnd s o) : Working s (s.dropOwner o) := by
  cases o with
  | channel c => exact endChannel_working s can _ _
  | host => exact finishSlot_working s can _ _

/-- Releasing an owner's entries writes no other channel. -/
theorem releaseOwner_channel_other {o : Owner} {d : ChannelNo} (other : o ≠ .channel d) :
    (s.releaseOwner o).channel d = s.channel d := by
  have release : ∀ (u : State) (t : Tag), (u.entry t).owner ≠ .channel d → (u.releaseEntry t).channel d = u.channel d := by
    intro u t owned
    unfold State.releaseEntry
    split
    · have drop : ((u.letGo (.entry t)).dropFetch (u.entry t)).channel d = u.channel d := by
        unfold State.dropFetch
        split
        · next c _ owner =>
          rw [channel_modifyChannel, if_neg (by rintro rfl; exact owned owner)]
          exact letGo_channel u _ d
        · exact letGo_channel u _ d
      exact drop
    · exact endLanding_channel u t d
    · rfl
  unfold State.releaseOwner
  generalize allTags = l
  induction l generalizing s with
  | nil => rfl
  | cons t l ih =>
    rw [List.foldl_cons, ih]
    split
    · next held =>
      refine release s t ?_
      simp only [Entry.held, Bool.and_eq_true, decide_eq_true_eq] at held
      rw [held.1]
      exact other
    · rfl

@[simp] theorem raiseIf_channel (p : Bool) (f : EventFlag) (c : ChannelNo) : (s.raiseIf p f).channel c = s.channel c := by
  unfold State.raiseIf; split <;> rfl

theorem endChannel_channel_other {c d : ChannelNo} (other : d ≠ c) (k : TermCode) (r : Option RefuseReason) :
    (s.endChannel c k r).channel d = s.channel d := by
  rw [endChannel_eq, raiseIf_channel, channel_modifyChannel, if_neg other]
  exact releaseOwner_channel_other s (by simpa using other.symm)

/-- Releases write no notice and no membership. -/
theorem Working.member {s t : State} (h : Working s t) : t.member = s.member :=
  h.keeps (P := fun u => u.member = s.member) (fun u v w e => by cases w <;> exact e) rfl

theorem releaseEntry_notices (t : Tag) : (s.releaseEntry t).notices = s.notices := by
  have drop : ∀ e, ((s.letGo (.entry t)).dropFetch e).notices = s.notices := fun e => by
    obtain ⟨l, r, eq, -⟩ := letGo_eq s (.entry t)
    unfold State.dropFetch
    split <;> simp [eq, State.withdrawFetch]
  unfold State.releaseEntry
  split
  · exact drop _
  · rw [setEntry_notices]; unfold State.endLanding; split <;> rfl
  · rfl

@[simp] theorem releaseOwner_notices (o : Owner) : (s.releaseOwner o).notices = s.notices := by
  unfold State.releaseOwner
  generalize allTags = l
  induction l generalizing s with
  | nil => rfl
  | cons t l ih =>
    rw [List.foldl_cons, ih]
    split
    · exact releaseEntry_notices s t
    · rfl

@[simp] theorem endChannel_notices (c : ChannelNo) (k : TermCode) (r : Option RefuseReason) :
    (s.endChannel c k r).notices = s.notices := by
  rw [endChannel_eq, State.raiseIf, ← releaseOwner_notices s (.channel c)]
  generalize s.releaseOwner (.channel c) = u
  split <;> rfl

/-- An owner that ends without a tag takes no other owner's end from it. -/
theorem canEnd_dropOwner {o p : Owner} (other : p ≠ o) (can : CanEnd s p) : CanEnd (s.dropOwner o) p := by
  cases o with
  | channel c =>
    cases p with
    | channel d =>
      have hd : d ≠ c := fun e => other (by rw [e])
      simpa only [CanEnd, State.dropOwner, endChannel_channel_other s hd] using can
    | host => simpa only [CanEnd, State.dropOwner, endChannel_notices] using can
  | host =>
    cases p with
    | channel d => exact can
    | host => exact absurd rfl other

theorem unusableOwners_sublist (n : Nat) (l : List Owner) : (s.unusableOwners n l).Sublist l := by
  induction l generalizing n with
  | nil => cases n <;> exact List.Sublist.refl _
  | cons o l ih =>
    cases n with
    | zero => exact List.nil_sublist _
    | succ n =>
      unfold State.unusableOwners
      split
      · split
        · exact (ih n).cons o
        · exact (ih _).cons_cons o
      · exact (ih _).cons o

theorem waits_of_mem_unusableOwners {n : Nat} {l : List Owner} {o : Owner} (h : o ∈ s.unusableOwners n l) :
    s.waits o = true ∧ s.peerUsable (s.peerOf o) = false := by
  induction l generalizing n with
  | nil => cases n <;> cases h
  | cons p l ih =>
    cases n with
    | zero => cases h
    | succ n =>
      unfold State.unusableOwners at h
      split at h
      · next waits =>
        split at h
        · exact ih h
        · next unusable =>
          rcases List.mem_cons.mp h with rfl | h
          · exact ⟨waits, by simpa using unusable⟩
          · exact ih h
      · exact ih h

theorem ownerOrder_nodup : ownerOrder.Nodup := by decide

theorem dropOwners_working {l : List Owner} (once : l.Nodup) (can : ∀ o ∈ l, CanEnd s o) :
    Working s (l.foldl State.dropOwner s) := by
  induction l generalizing s with
  | nil => exact .refl
  | cons o l ih =>
    obtain ⟨fresh, once⟩ := List.nodup_cons.mp once
    refine (dropOwner_working s (can o (by simp))).trans (ih (s.dropOwner o) once fun p hp => ?_)
    exact canEnd_dropOwner s (fun e => fresh (e ▸ hp)) (can p (by simp [hp]))

theorem dropUnusable_working : Working s s.dropUnusable :=
  dropOwners_working s (ownerOrder_nodup.sublist (unusableOwners_sublist s _ _)) fun _ ho =>
    canEnd_of_waits s (waits_of_mem_unusableOwners s ho).1

theorem startChannels_working : Working s s.startChannels := Working.foldl _ startIfDue_working _ s

theorem askChannels_working : Working s s.askChannels := Working.foldl _ askChannel_working _ s

theorem askOwners_working : Working s s.askOwners := (askChannels_working s).trans (dropUnusable_working _)

/-! ## The Inbound Service and dispatch -/

theorem engineTake_working : Working s s.engineTake := by
  unfold State.engineTake
  split
  · next r rest idle queue =>
    have head : s.inbound.queue ≠ [] := by simp [queue]
    split <;> exact (Relation.ReflTransGen.single (.engine s _ idle head)).tail (.port _ _)
  · exact .refl

theorem settleOnce_working : Working s s.settleOnce := (startChannels_working s).trans (engineTake_working _)

theorem countDropped_working : Working s s.countDropped := .single (.rx s _ (.inl rfl) rfl)
theorem countStale_working : Working s s.countStale := .single (.rx s _ (.inl rfl) rfl)
theorem popBuffer_working : Working s s.popBuffer := .single (.rx s _ (.inr rfl) rfl)

theorem placeResponse_working (room : s.responsesFull = false) (r : Response) : Working s (s.placeResponse r) :=
  .single (.respond s r (by simpa [State.responsesFull] using room))

theorem placeOrDrop_working (r : Response) : Working s (s.placeOrDrop r) := by
  unfold State.placeOrDrop
  split
  · exact countDropped_working s
  · next room => exact placeResponse_working s (by simpa using room) r

/-- A request is accepted only ONLINE and with room in the Inbound Queue (R69, R73). -/
theorem arrivalCheck_accepts {src : StationNo} {w : Bool} {a : BitVec 24} {l : BitVec 16} {p : List Byte} {x : Word}
    (accepted : s.arrivalCheck src w a l p = .inr x) :
    s.member.state = .online ∧ s.inbound.queue.length < Config.inboundQueueSize := by
  unfold State.arrivalCheck at accepted
  split at accepted
  · cases accepted
  · next online =>
    refine ⟨not_not.mp online, ?_⟩
    split at accepted
    · cases accepted
    · split at accepted
      · cases accepted
      · split at accepted
        · cases accepted
        · split at accepted
          · cases accepted
          · split at accepted
            · cases accepted
            · next room => exact Nat.lt_of_not_le room

theorem requestArrives_working (src : StationNo) (t : Tag) (w : Bool) (a : BitVec 24) (l : BitVec 16) (p : List Byte) :
    Working s (s.requestArrives src t w a l p) := by
  unfold State.requestArrives
  split
  · exact placeOrDrop_working s _
  · next accepted =>
    obtain ⟨online, room⟩ := arrivalCheck_accepts s accepted
    exact .single (.enqueue s _ online room)

theorem noticeArrives_working (src : StationNo) (t : Tag) (code : BitVec 16) : Working s (s.noticeArrives src t code) := by
  unfold State.noticeArrives
  split
  · exact placeOrDrop_working s _
  · next online =>
    split
    · exact countDropped_working s
    · next room =>
      have room' : s.responsesFull = false := by simpa using room
      split
      · next c found =>
        have candidate := List.find?_some found
        have armed : (s.channel c).state = .armed := by
          simp only [Channel.candidate, Bool.and_eq_true, decide_eq_true_eq] at candidate
          exact candidate.1.1.1.1
        have latch : Working s (s.modifyChannel c fun ch => { ch with latch := true }) :=
          modifyChannel_working s (.of_not_ended rfl id (not_ended_of_state (by simp [armed])))
        exact latch.tail (.respond _ _ (by simpa [State.responsesFull] using room'))
      · split
        · next space =>
          exact (Relation.ReflTransGen.single (.notice s src code (not_not.mp online) space)).trans
            (placeResponse_working (s.appendNotice src code) room' _)
        · exact placeResponse_working _ room' _

theorem finalAnswer_working {t : Tag} (live : (s.entry t).state = .live) (res : Result) : Working s (s.finalAnswer t res) :=
  (Relation.ReflTransGen.single (.entry s t _ (.answered (.inl live)))).trans (report_working _ _ _ _)

/-- An answer matches LIVE and ABANDONED entries only (R49). -/
theorem open_of_answers {e : Entry} {src : StationNo} {b : FrameBody} (h : e.answers src b = true) :
    e.state = .live ∨ e.state = .abandoned := by
  simp only [Entry.answers, Bool.and_eq_true, Bool.or_eq_true, decide_eq_true_eq] at h
  exact h.1.1

theorem answerArrives_working (src : StationNo) (t : Tag) (b : FrameBody) (res : Result) :
    Working s (s.answerArrives src t b res) := by
  unfold State.answerArrives
  dsimp only
  split
  · next answers =>
    split
    · next live => exact finalAnswer_working s live res
    · exact .single (.entry s t _ (.answered (open_of_answers answers)))
  · exact countStale_working s

theorem readDataArrives_working (src : StationNo) (t : Tag) (last : Bool) (place : BitVec 6) (p : List Byte) :
    Working s (s.readDataArrives src t last place p) := by
  unfold State.readDataArrives
  dsimp only
  split
  · next answers =>
    split
    · next live =>
      split
      · exact ((popBuffer_working s).trans (quarantineEntry_working s.popBuffer (.inl live))).trans (report_working _ _ _ _)
      · exact (Relation.ReflTransGen.single (.entry s t _ (.landing live))).tail (.port _ _)
    · split
      · exact (popBuffer_working s).tail (.entry s.popBuffer t _ (.answered (open_of_answers answers)))
      · exact popBuffer_working s
  · exact (popBuffer_working s).trans (countStale_working _)

/-- A dispatch is a chain of writes. -/
theorem dispatchHead_working : Working s s.dispatchHead := by
  unfold State.dispatchHead
  split
  · exact .refl
  · split
    · exact (popBuffer_working s).trans (requestArrives_working _ _ _ _ _ _ _)
    · exact (popBuffer_working s).trans (requestArrives_working _ _ _ _ _ _ _)
    · exact (popBuffer_working s).trans (noticeArrives_working _ _ _ _)
    · exact readDataArrives_working s _ _ _ _ _
    · exact (popBuffer_working s).trans (answerArrives_working _ _ _ _ _)
    · exact (popBuffer_working s).trans (answerArrives_working _ _ _ _ _)
    all_goals exact popBuffer_working s

/-! ## Allocation -/

/-- The tag offered is FREE (R36). -/
theorem free_of_lowestFree {t : Tag} (h : s.lowestFree = some t) : (s.entry t).state = .free := by
  simpa using List.find?_some h

theorem ownsQueued_of_wantsTag {c : ChannelNo} (wants : s.wantsTag c = true) : s.ownsQueued (.channel c) = false := by
  unfold State.wantsTag at wants
  dsimp only at wants
  split at wants
  · simp only [State.mayIssue, Bool.and_eq_true, Bool.not_eq_true'] at wants
    exact wants.1.1.2
  · simp only [Bool.and_eq_true, Bool.not_eq_true'] at wants
    exact wants.1.2
  · cases wants

/-- A RUNNING channel that asks has fewer OUTSTANDING records than its depth (R13). -/
theorem count_of_wantsTag {c : ChannelNo} (wants : s.wantsTag c = true) (other : (s.channel c).state ≠ .notifying) :
    (s.channel c).outstandingCount < (s.channel c).desc.depth := by
  unfold State.wantsTag at wants
  dsimp only at wants
  split at wants
  · simp only [State.mayIssue, Bool.and_eq_true, decide_eq_true_eq] at wants
    exact wants.1.2
  · next h => exact absurd h other
  · cases wants

theorem isPresent_of_peerUsable {n : StationNo} (h : s.peerUsable n = true) : s.isPresent n = true := by
  simp only [State.peerUsable, Bool.and_eq_true] at h
  exact h.1

/-- Issuing makes at most one more record OUTSTANDING (R13). -/
theorem issueFirst_count (t : Tag) (l : List SegRecord) :
    ((issueFirst t l).filter SegRecord.isOutstanding).length ≤ (l.filter SegRecord.isOutstanding).length + 1 := by
  induction l with
  | nil => simp [issueFirst]
  | cons r l ih =>
    unfold issueFirst
    split
    · next pending =>
      have : r.isOutstanding = false := by
        simp only [SegRecord.isPending, decide_eq_true_eq] at pending
        simp [SegRecord.isOutstanding, pending]
      have made : ({ r with state := .outstanding t } : SegRecord).isOutstanding = true := rfl
      simp [this, made]
    · by_cases h : r.isOutstanding = true
      · simpa [h] using ih
      · simpa [h] using ih

@[simp] theorem issueFirst_length (t : Tag) (l : List SegRecord) : (issueFirst t l).length = l.length := by
  induction l with
  | nil => rfl
  | cons r l ih => unfold issueFirst; split <;> simp [ih]

theorem ownsQueued_congr {s t : State} (h : s.tracker = t.tracker) (o : Owner) : s.ownsQueued o = t.ownsQueued o := by
  simp only [State.ownsQueued, entry_congr h]

theorem isPresent_congr {s t : State} (h : s.member.roster = t.member.roster) (n : StationNo) :
    s.isPresent n = t.isPresent n := by
  simp [State.isPresent, rosterEntry_congr h n]

/-- The entry of an allocation joins the QUEUED order (R36). -/
theorem queueEntry_inside {g : Tag} {e : Entry} (free : (s.entry g).state = .free)
    (timers : EntryTimers { e with state := .queued }) (present : s.isPresent e.peer = true)
    (alone : ∀ c : ChannelNo, e.owner = .channel c → s.ownsQueued (.channel c) = false ∧ (s.channel c).state ≠ .off) :
    Inside s (s.queueEntry g e) :=
  (Grant.inside (.queue s g _ free rfl timers present alone)).tail (.inl (.order _ _))

theorem issueSegment_inside {c : ChannelNo} {g : Tag} {r : SegRecord} (free : (s.entry g).state = .free)
    (wants : s.wantsTag c = true) (other : (s.channel c).state ≠ .notifying)
    (usable : s.peerUsable (s.channel c).desc.peer = true) : Inside s (s.issueSegment c g r) := by
  have active := not_ended_of_wantsTag s wants
  have running : (s.channel c).state = .running := by
    unfold State.wantsTag at wants
    dsimp only at wants
    split at wants
    · next h => exact h
    · next h => exact absurd h other
    · cases wants
  set u := s.modifyChannel c fun ch => { ch with waiting := false, payload := none, records := issueFirst g ch.records }
    with hu
  have chosen : Working s u := by
    refine modifyChannel_working s (.of_not_ended rfl (fun h => ?_) (not_ended_of_state active))
    obtain ⟨-, length, -⟩ := h
    refine ⟨?_, by simpa using length, fun k => ?_⟩
    · exact (issueFirst_count g _).trans (count_of_wantsTag s wants other)
    · simp [running] at k
  have queue : Inside u (u.queueEntry g ((s.channel c).desc.segmentEntry c r)) := by
    refine queueEntry_inside u free ?_ ?_ ?_
    · unfold Descriptor.segmentEntry
      split <;> simp [EntryTimers]
    · rw [isPresent_congr (s := u) (t := s) rfl]
      have : ((s.channel c).desc.segmentEntry c r).peer = (s.channel c).desc.peer := by
        unfold Descriptor.segmentEntry; split <;> rfl
      rw [this]
      exact isPresent_of_peerUsable s usable
    · intro d owner
      have : ((s.channel c).desc.segmentEntry c r).owner = .channel c := by
        unfold Descriptor.segmentEntry; split <;> rfl
      rw [this] at owner
      cases owner
      refine ⟨(ownsQueued_congr (t := s) rfl _).trans (ownsQueued_of_wantsTag s wants), ?_⟩
      rw [hu, channel_modifyChannel_self]
      exact active
  unfold State.issueSegment
  dsimp only
  split
  · exact chosen.inside.trans queue
  · exact (chosen.inside.trans queue).tail (.inl (.port _ _))

theorem issueNotice_inside {c : ChannelNo} {g : Tag} {n : NoticeRecord} (free : (s.entry g).state = .free)
    (wants : s.wantsTag c = true) (usable : s.peerUsable (s.channel c).desc.peer = true) :
    Inside s (s.issueNotice c g n) := by
  have active := not_ended_of_wantsTag s wants
  set u := s.modifyChannel c fun ch => { ch with waiting := false, notice := some { n with phase := .tagged g } } with hu
  have chosen : Working s u := modifyChannel_working s (.of_not_ended rfl id (not_ended_of_state active))
  refine chosen.inside.trans (queueEntry_inside u free ?_ ?_ ?_)
  · simp [EntryTimers]
  · rw [isPresent_congr (s := u) (t := s) rfl]
    exact isPresent_of_peerUsable s usable
  · intro d owner
    cases owner
    refine ⟨(ownsQueued_congr (t := s) rfl _).trans (ownsQueued_of_wantsTag s wants), ?_⟩
    rw [hu, channel_modifyChannel_self]
    exact active

theorem offerSlot_inside {g : Tag} (free : (s.entry g).state = .free) (waits : s.slotWaits = true) :
    Inside s (s.offerSlot g) := by
  have sending := sending_of_slotWaits s waits
  unfold State.offerSlot
  dsimp only
  split
  · next usable =>
    refine (Working.inside (.single (.slot s _ sending))).trans (queueEntry_inside _ free ?_ ?_ ?_)
    · simp [EntryTimers]
    · exact isPresent_of_peerUsable s usable
    · intro c owner; cases owner
  · exact (dropOwner_working s (o := .host) sending).inside

theorem offerChannel_inside {c : ChannelNo} {g : Tag} (free : (s.entry g).state = .free) (wants : s.wantsTag c = true) :
    Inside s (s.offerChannel c g) := by
  have drop := (dropOwner_working s (o := .channel c) (not_ended_of_state (not_ended_of_wantsTag s wants))).inside
  unfold State.offerChannel
  dsimp only
  split
  · split
    · split
      · next usable => exact issueNotice_inside s free wants usable
      · exact drop
    · exact .refl
  · next other =>
    split
    · split
      · next usable => exact issueSegment_inside s free wants other usable
      · exact drop
    · exact .refl

theorem grantTag_inside (o : Owner) : Inside s (s.grantTag o) := by
  unfold State.grantTag
  split
  · exact .refl
  · next g lowest =>
    have free := free_of_lowestFree s lowest
    split
    · next waits =>
      cases o with
      | channel c =>
        simp only [State.waits, Bool.and_eq_true] at waits
        exact offerChannel_inside s free waits.2
      | host => exact offerSlot_inside s free waits
    · exact .refl

theorem Inside.foldl {α : Type} (f : State → α → State) (hf : ∀ s a, Inside s (f s a)) (l : List α) (s : State) :
    Inside s (l.foldl f s) := by
  induction l generalizing s with
  | nil => exact .refl
  | cons a l ih => exact (hf s a).trans (ih (f s a))

theorem allocateTags_inside : Inside s s.allocateTags := Inside.foldl _ grantTag_inside _ s

/-! ## Settling -/

/-- Settling takes starts, heads, dispatches and asks first, no allocation among them, and then the tags, once (R38). -/
theorem settleN_eq (n : Nat) : ∃ u : State, Working s u ∧ State.settleN n s = u.settleTags := by
  induction n generalizing s with
  | zero => exact ⟨_, (settleOnce_working s).trans (askOwners_working _), rfl⟩
  | succ n ih =>
    have once := settleOnce_working s
    have asked := once.trans (askOwners_working s.settleOnce)
    unfold State.settleN
    dsimp only
    split
    · obtain ⟨u, work, eq⟩ := ih s.settleOnce.dispatchHead
      exact ⟨u, (once.trans (dispatchHead_working _)).trans work, eq⟩
    · split
      · obtain ⟨u, work, eq⟩ := ih s.settleOnce.askOwners.dispatchHead
        exact ⟨u, (asked.trans (dispatchHead_working _)).trans work, eq⟩
      · exact ⟨_, asked, rfl⟩

/-- All of settling but the end of a drain and the order of the fetches is a chain of writes. -/
theorem settleFrom_eq (old : List (ChannelNo × BurstRequest)) :
    ∃ u : State, Inside s u ∧ s.settleFrom old = (u.checkDrain).orderFetches old := by
  obtain ⟨u, work, eq⟩ := settleN_eq s (2 * Config.receiveBufferSize)
  exact ⟨u.allocateTags, work.inside.trans (allocateTags_inside u), by rw [State.settleFrom, eq, State.settleTags]⟩

end

end Sys2Proof.Proofs
end


section
/-!
The writes of every event: those of the work inside a step, and the writes that only the commands, the link's and the timers'
events make (`Update`). Each invariant is kept by every single write, so by every chain of them; the settings, the windows,
the enables, the queue and the written words are no part of any of them.
-/

set_option Elab.async false

namespace Sys2Proof.Proofs

open Sys2Proof Sys2Proof.Machine Sys2Proof.Safety Sys2Proof.Laws

/-! ## The writes -/

/-- What an event may do to an entry, allocation aside. -/
structure EntryEvent (x y : Entry) : Prop where
  owner : y.owner = x.owner
  peer : y.peer = x.peer
  timers : EntryTimers x → EntryTimers y
  queued : y.state = .queued → x.state = .queued
  flight : EntryTimers x → InFlight y → InFlight x

/-- What an event may do to a channel. -/
structure ChannelEvent (x y : Channel) : Prop where
  desc : y.desc = x.desc
  bound : ChannelBound x → ChannelBound y

/-- The station's settings in the Membership Unit, its state and its roster are the same. -/
structure SameStation (m n : Membership) : Prop where
  number : n.number = m.number
  tResp : n.tResp = m.tResp
  tHb : n.tHb = m.tHb
  state : n.state = m.state
  roster : n.roster = m.roster

/-- One write of an event. -/
inductive Update : State → State → Prop
  | inside {s t : State} (h : Work s t ∨ Grant s t) : Update s t
  | channels (s : State) (v : Vector Channel 6) (h : ∀ c : ChannelNo, ChannelEvent (s.channel c) (v.get c)) :
      Update s { s with channels := v }
  | entries (s : State) (v : Vector Entry 32) (h : ∀ g : Tag, EntryEvent (s.entry g) (v.get g)) :
      Update s { s with tracker := { s.tracker with entries := v } }
  | inbound (s : State) (i : Inbound) (windows : i.windows = s.inbound.windows)
      (queue : i.queue.length ≤ s.inbound.queue.length)
      (responses : i.responses.length ≤ s.inbound.responses.length ∨ i.responses.length ≤ Config.responseQueueSize) :
      Update s { s with inbound := i }
  | notices (s : State) (n : NoticeUnit) (queue : n.queue.length ≤ s.notices.queue.length) :
      Update s { s with notices := n }
  | receiver (s : State) (r : Receiver)
      (buffer : r.buffer.length ≤ s.rx.buffer.length ∨ r.buffer.length ≤ Config.receiveBufferSize) :
      Update s { s with rx := r }
  | hold (s : State) (n : Nat) (limit : n ≤ s.holdDepth ∨ n ≤ Config.holdLimit) : Update s { s with holdDepth := n }
  | link (s : State) (l : LinkUnit) (garble : l.garble ≤ s.link.garble ∨ l.garble < Config.garbleLimit)
      (unit : l.unit = .waiting ∨ l.unit = s.link.unit ∨ s.link.unit ≠ .waiting ∨ s.member.state ≠ .conflict) :
      Update s { s with link := l }
  | member (s : State) (m : Membership) (same : SameStation s.member m) : Update s { s with member := m }
  | heard (s : State) (n : StationNo) (e : RosterEntry) (present : e.presence.isPresent = true)
      (other : n ≠ s.member.number) (high : s.host.resetLow = false) : Update s (s.setRoster n e)
  | roster (s : State) (v : Vector RosterEntry 31)
      (same : ∀ n : Fin 31, (v.get n).presence.isPresent = (s.member.roster.get n).presence.isPresent) :
      Update s { s with member := { s.member with roster := v } }
  | station (s : State) (st : StationState) (cause : ConflictCause)
      (bound : s.link.garble < Config.garbleLimit ∨ s.member.state ≠ .conflict) : Update s (s.setStation st cause)
  | refusal (s : State) (r : RefusalRecord) : Update s { s with host := { s.host with refusal := r } }
  | clear (s : State) (w : Word) : Update s { s with host := { s.host with latched := s.host.latched &&& w } }

/-- A chain of writes. -/
abbrev Updates : State → State → Prop := Relation.ReflTransGen Update

theorem Inside.updates {s t : State} (h : Inside s t) : Updates s t :=
  Relation.ReflTransGen.mono (fun _ _ => .inside) _ _ h

theorem Working.updates {s t : State} (h : Working s t) : Updates s t := Inside.updates h.inside

theorem Updates.keeps {P : State → Prop} (update : ∀ s t, Update s t → P s → P t) {s t : State} (h : Updates s t)
    (hs : P s) : P t := by
  induction h with
  | refl => exact hs
  | tail _ step ih => exact update _ _ step ih

theorem Updates.foldl {α : Type} (f : State → α → State) (hf : ∀ s a, Updates s (f s a)) (l : List α) (s : State) :
    Updates s (l.foldl f s) := by
  induction l generalizing s with
  | nil => exact .refl
  | cons a l ih => exact (hf s a).trans (ih (f s a))

/-- A write of an event, or one of the station's changes that are taken whole: a peer ABSENT with its reports, the entry to OFFLINE,
the entry to CONFLICT with the garble count that leads there. -/
inductive Change : State → State → Prop
  | update {s t : State} (h : Update s t) : Change s t
  | absent (s : State) (p : StationNo) : Change s (s.becomeAbsent p)
  | offline (s : State) : Change s s.enterOffline
  | conflict (s : State) (l : LinkUnit) (cause : ConflictCause) (waits : l.unit = .waiting)
      (garble : l.garble ≤ s.link.garble ∨ (s.link.unit ≠ .waiting ∧ l.garble ≤ s.link.garble + 1)) :
      Change s (State.enterConflict { s with link := l } cause)

abbrev Changes : State → State → Prop := Relation.ReflTransGen Change

theorem Updates.changes {s t : State} (h : Updates s t) : Changes s t :=
  Relation.ReflTransGen.mono (fun _ _ => .update) _ _ h

theorem Changes.keeps {P : State → Prop} (change : ∀ s t, Change s t → P s → P t) {s t : State} (h : Changes s t)
    (hs : P s) : P t := by
  induction h with
  | refl => exact hs
  | tail _ step ih => exact change _ _ step ih

/-! ## Entries and channels -/

/-- The moves of the work inside a step are moves of an event. -/
theorem EntryWork.event {x y : Entry} (h : EntryWork x y) : EntryEvent x y := by
  cases h with
  | release queued =>
    exact ⟨rfl, rfl, fun _ => by simp [EntryTimers, Entry.freed], by simp [Entry.freed], by simp [InFlight, Entry.freed]⟩
  | answered open_ =>
    exact ⟨rfl, rfl, fun _ => by simp [EntryTimers, Entry.freed], by simp [Entry.freed], by simp [InFlight, Entry.freed]⟩
  | abandon live =>
    refine ⟨rfl, rfl, fun h => ?_, by simp [Entry.abandon], fun _ _ => .inr (.inl live)⟩
    obtain ⟨sending, -, deadline, quarantine⟩ := h
    simp only [live] at sending deadline quarantine
    simp_all [EntryTimers, Entry.abandon]
  | quarantine open_ us =>
    exact ⟨rfl, rfl, fun _ => by simp [EntryTimers, Entry.quarantined], by simp [Entry.quarantined],
      by simp [InFlight, Entry.quarantined]⟩
  | landing live =>
    refine ⟨rfl, rfl, fun h => ?_, fun h => h, fun _ h => h⟩
    obtain ⟨sending, -, deadline, quarantine⟩ := h
    exact ⟨sending, fun _ => live, deadline, quarantine⟩

theorem EntryEvent.refl (x : Entry) : EntryEvent x x := ⟨rfl, rfl, id, id, fun _ => id⟩

theorem ChannelEvent.refl (x : Channel) : ChannelEvent x x := ⟨rfl, id⟩

/-- A write of one channel. -/
theorem setChannel_updates (s : State) {c : ChannelNo} {x : Channel} (h : ChannelEvent (s.channel c) x) :
    Updates s (s.setChannel c x) := by
  refine .single (.channels s _ fun d => ?_)
  rw [vector_get_set]
  split
  · next e => rw [e]; exact h
  · exact .refl _

theorem modifyChannel_updates (s : State) {c : ChannelNo} {f : Channel → Channel}
    (h : ChannelEvent (s.channel c) (f (s.channel c))) : Updates s (s.modifyChannel c f) := setChannel_updates s h

theorem mapChannels_updates (s : State) {f : Channel → Channel} (h : ∀ x, ChannelEvent x (f x)) :
    Updates s (s.mapChannels f) := .single (.channels s _ fun c => by rw [mapTable_get]; exact h _)

/-- A write of one entry. -/
theorem setEntry_updates (s : State) {g : Tag} {e : Entry} (h : EntryEvent (s.entry g) e) : Updates s (s.setEntry g e) := by
  refine .single (.entries s _ fun u => ?_)
  rw [vector_get_set]
  split
  · next k => rw [k]; exact h
  · exact .refl _

/-! ## The larger writes, block by block -/

section
variable (s : State)

/-- The purge of a peer is a chain of the writes inside a step, and a smaller Inbound Service (R58, R59, R84). -/
theorem purgeTracker_working (p : StationNo) : Working s (s.purgeTracker p) := by
  refine .trans (Working.foldl _ (fun s t => ?_) allTags s) (Working.foldl _ (fun u t => report_working u _ t _) _ _)
  split
  · exact purgeEntry_working s t
  · exact .refl

theorem engineStop_updates : Updates s s.engineStop :=
  (Relation.ReflTransGen.single (.inside (.inl (.port s _)))).tail (.inbound _ _ rfl le_rfl (.inl le_rfl))

theorem emptyDataSlot_updates : Updates s s.emptyDataSlot :=
  (letGo_working s _).updates.tail (.inbound _ _ rfl le_rfl (.inl le_rfl))

theorem purgeInbound_updates (p : StationNo) : Updates s (s.purgeInbound p) := by
  unfold State.purgeInbound
  dsimp only
  have guard : ∀ (b : Bool) {u v : State}, Updates u v → Updates u (if b then v else u) := fun b u v h => by
    cases b
    · exact .refl
    · exact h
  refine .tail (((guard _ (engineStop_updates s)).trans (guard _ (emptyDataSlot_updates _))).trans
    (guard _ (letGo_working _ _).updates)) (.inbound _ _ rfl ?_ (.inl ?_))
  · exact List.length_filter_le _ _
  · exact List.length_filter_le _ _

theorem peerLost_updates (p : StationNo) : Updates s (s.peerLost p) :=
  (purgeTracker_working s p).updates.trans (purgeInbound_updates _ p)

theorem setControl_updates (l : List ControlFrame) : Updates s (s.setControl l) :=
  .single (.member s _ ⟨rfl, rfl, rfl, rfl, rfl⟩)

theorem withdrawControl_updates (p : ControlKind → Bool) : Updates s (s.withdrawControl p) := by
  unfold State.withdrawControl
  refine .trans ?_ (setControl_updates _ _)
  split
  · split
    · exact (letGo_working s _).updates
    · exact .refl
  · exact .refl

theorem checkDrain_updates : Updates s s.checkDrain := by
  unfold State.checkDrain
  split
  · exact .single (.member s _ ⟨rfl, rfl, rfl, rfl, rfl⟩)
  · exact .refl

theorem settleFrom_updates (old : List (ChannelNo × BurstRequest)) : Updates s (s.settleFrom old) := by
  obtain ⟨u, work, eq⟩ := settleFrom_eq s old
  rw [eq]
  exact ((Inside.updates work).trans (checkDrain_updates u)).tail (.inside (.inl (.port _ _)))

theorem settle_updates : Updates s s.settle := settleFrom_updates s _

theorem recordRefusal_updates (r : RefusalRecord) : Updates s (s.recordRefusal r) :=
  (Relation.ReflTransGen.single (.refusal s r)).tail (.inside (.inl (.raise _ _)))

/-- The end of a channel in whatever state. -/
theorem endChannel_updates (c : ChannelNo) (k : TermCode) (r : Option RefuseReason) : Updates s (s.endChannel c k r) := by
  rw [endChannel_eq]
  have released := (releaseOwner_working s (.channel c)).updates
  generalize s.releaseOwner (.channel c) = u at released
  exact (released.trans (modifyChannel_updates u ⟨rfl, fun _ => channelBound_no_records rfl⟩)).trans
    (raiseIf_working _ _ _).updates

end

/-! ## The entries to OFFLINE and CONFLICT -/

/-- What the two entries leave of a channel meets the bounds (R31). -/
theorem stationEnds_event (code : TermCode) (ch : Channel) : ChannelEvent ch (ch.stationEnds code) := by
  unfold Channel.stationEnds
  split
  · exact ⟨rfl, fun _ => channelBound_no_records rfl⟩
  · exact ⟨rfl, fun _ => channelBound_no_records rfl⟩
  · exact ⟨rfl, fun _ => channelBound_no_records rfl⟩
  · exact ⟨rfl, id⟩
  · exact ⟨rfl, id⟩

theorem freed_event (e : Entry) : EntryEvent e e.freed :=
  ⟨rfl, rfl, fun _ => by simp [EntryTimers, Entry.freed], by simp [Entry.freed], by simp [InFlight, Entry.freed]⟩

theorem raiseEnding_working (s : State) (c : ChannelNo) : Working s (s.raiseEnding c) := by
  unfold State.raiseEnding
  split
  · exact raiseIf_working s _ _
  · exact raiseIf_working s _ _
  · exact raiseIf_working s _ _
  · exact .refl
  · exact .refl

/-- The pair silent, CH_ERR of the channels that end, and these channels ended. -/
def endedChannels (code : TermCode) (s : State) : State :=
  (allChannels.foldl State.raiseEnding s.silence).mapChannels (Channel.stationEnds code)

/-- Tracker, Inbound Service, Receive Buffer and port emptied, the timers stopped. -/
def emptiedBlocks (s : State) : State :=
  { s with
    tracker := { entries := mapTable Entry.freed s.tracker.entries, queued := [] }
    inbound := { s.inbound with queue := [], responses := [], dataSlot := none, engine := .idle }
    rx := { s.rx with buffer := [] }
    port := s.port.withdrawAll
    member := { s.member with listen := none, heartbeat := .stopped, drain := none, control := [] } }

/-- A SENDING slot ends PEER_LOST. -/
def slotLost (s : State) : State :=
  match s.notices.slot.state with
  | .sending _ => s.finishSlot .peerLost none
  | _ => s

theorem quiesce_eq (s : State) (code : TermCode) : s.quiesce code = slotLost (emptiedBlocks (endedChannels code s)) := rfl

theorem endedChannels_updates (s : State) (code : TermCode) : Updates s (endedChannels code s) := by
  unfold endedChannels
  have silent := (silence_working s).updates
  generalize s.silence = u at silent
  have raised := silent.trans (Working.foldl _ raiseEnding_working allChannels u).updates
  generalize allChannels.foldl State.raiseEnding u = v at raised
  exact raised.trans (mapChannels_updates v (stationEnds_event code))

theorem emptiedBlocks_updates (s : State) : Updates s (emptiedBlocks s) := by
  have freed : Updates s { s with tracker := { s.tracker with entries := mapTable Entry.freed s.tracker.entries } } :=
    .single (.entries s _ fun g => by rw [mapTable_get]; exact freed_event _)
  exact ((((freed.tail (.inside (.inl (.order _ [])))).tail
    (.inbound _ { s.inbound with queue := [], responses := [], dataSlot := none, engine := .idle } rfl (Nat.zero_le _)
      (.inl (Nat.zero_le _)))).tail
    (.receiver _ { s.rx with buffer := [] } (.inl (Nat.zero_le _)))).tail
    (.inside (.inl (.port _ s.port.withdrawAll)))).tail
    (.member _ { s.member with listen := none, heartbeat := .stopped, drain := none, control := [] }
      ⟨rfl, rfl, rfl, rfl, rfl⟩)

theorem slotLost_working (s : State) : Working s (slotLost s) := by
  unfold slotLost
  split
  · next h => exact finishSlot_working s (by rw [h]; rfl) _ _
  · exact .refl

/-- What the two entries have in common, without the station state. -/
theorem quiesce_updates (s : State) (code : TermCode) : Updates s (s.quiesce code) := by
  rw [quiesce_eq]
  exact ((endedChannels_updates s code).trans (emptiedBlocks_updates _)).trans (slotLost_working _).updates

/-- What every write keeps, and a write of the roster, of the station state and of the link besides, the station's changes keep. -/
theorem Changes.keeps_of_writes {P : State → Prop} (update : ∀ s t, Update s t → P s → P t)
    (roster : ∀ (s : State) (p : StationNo), P s → P (s.setRoster p (s.rosterEntry p).lost))
    (station : ∀ (s : State) (st : StationState) (cause : ConflictCause), P s → P (s.setStation st cause))
    (link : ∀ (s : State) (l : LinkUnit), P s → P { s with link := l }) {s t : State} (h : Changes s t) (hs : P s) : P t := by
  refine h.keeps (fun s t c hs => ?_) hs
  cases c with
  | update u => exact update s t u hs
  | absent p =>
    unfold State.becomeAbsent
    split
    · exact (peerLost_updates _ p).keeps update (roster s p hs)
    · exact hs
  | offline => exact link _ _ (station _ _ _ ((quiesce_updates s .left).keeps update hs))
  | conflict l cause => exact station _ _ _ ((quiesce_updates _ .conflict).keeps update (link s l hs))

end Sys2Proof.Proofs
end


section
/-!
What every write keeps: marks and timers, the one QUEUED entry, the depth, the capacities, the windows, the flag bits, the garble
bound, the own number's roster entry; and the settings, which no write touches.
-/

set_option Elab.async false

namespace Sys2Proof.Proofs

open Sys2Proof Sys2Proof.Machine Sys2Proof.Safety Sys2Proof.Laws

/-! ## Settings -/

/-- What the host's own writes and the resets alone change. -/
structure SameSettings (s t : State) : Prop where
  number : t.member.number = s.member.number
  tResp : t.member.tResp = s.member.tResp
  tHb : t.member.tHb = s.member.tHb
  windows : t.inbound.windows = s.inbound.windows
  enables : t.host.enables = s.host.enables
  resetLow : t.host.resetLow = s.host.resetLow
  desc : ∀ c : ChannelNo, (t.channel c).desc = (s.channel c).desc
  ramWrites : t.ramWrites = s.ramWrites
  pending : t.pending = s.pending

theorem SameSettings.refl (s : State) : SameSettings s s := ⟨rfl, rfl, rfl, rfl, rfl, rfl, fun _ => rfl, rfl, rfl⟩

theorem SameSettings.trans {s t u : State} (h : SameSettings s t) (k : SameSettings t u) : SameSettings s u :=
  ⟨k.number.trans h.number, k.tResp.trans h.tResp, k.tHb.trans h.tHb, k.windows.trans h.windows, k.enables.trans h.enables,
    k.resetLow.trans h.resetLow, fun c => (k.desc c).trans (h.desc c), k.ramWrites.trans h.ramWrites,
    k.pending.trans h.pending⟩

theorem Work.settings {s t : State} (h : Work s t) : SameSettings s t := by
  cases h with
  | channel c x move =>
    refine ⟨rfl, rfl, rfl, rfl, rfl, rfl, fun d => ?_, rfl, rfl⟩
    rw [channel_setChannel]
    split
    · next e => rw [e]; exact move.desc
    · rfl
  | _ => exact ⟨rfl, rfl, rfl, rfl, rfl, rfl, fun _ => rfl, rfl, rfl⟩

theorem setRoster_settings (s : State) (n : StationNo) (e : RosterEntry) : SameSettings s (s.setRoster n e) := by
  unfold State.setRoster
  split <;> exact ⟨rfl, rfl, rfl, rfl, rfl, rfl, fun _ => rfl, rfl, rfl⟩

theorem Update.settings {s t : State} (h : Update s t) : SameSettings s t := by
  cases h with
  | inside h =>
    rcases h with h | ⟨g, e, free⟩
    · exact h.settings
    · exact ⟨rfl, rfl, rfl, rfl, rfl, rfl, fun _ => rfl, rfl, rfl⟩
  | channels v h => exact ⟨rfl, rfl, rfl, rfl, rfl, rfl, fun c => (h c).desc, rfl, rfl⟩
  | inbound i windows => exact ⟨rfl, rfl, rfl, windows, rfl, rfl, fun _ => rfl, rfl, rfl⟩
  | member m same => exact ⟨same.number, same.tResp, same.tHb, rfl, rfl, rfl, fun _ => rfl, rfl, rfl⟩
  | heard n e => exact setRoster_settings s n e
  | _ => exact ⟨rfl, rfl, rfl, rfl, rfl, rfl, fun _ => rfl, rfl, rfl⟩

/-- No event's writes change a setting. -/
theorem Changes.settings {s t : State} (h : Changes s t) : SameSettings s t :=
  h.keeps_of_writes (P := SameSettings s) (fun _ _ u h => h.trans u.settings)
    (fun _ _ h => h.trans (setRoster_settings _ _ _))
    (fun _ _ _ h => h.trans ⟨rfl, rfl, rfl, rfl, rfl, rfl, fun _ => rfl, rfl, rfl⟩)
    (fun _ _ h => h.trans ⟨rfl, rfl, rfl, rfl, rfl, rfl, fun _ => rfl, rfl, rfl⟩) (.refl s)

/-! ## The roster's presences -/

theorem setRoster_blocks (s : State) (n : StationNo) (e : RosterEntry) :
    ∃ v : Vector RosterEntry 31, s.setRoster n e = { s with member := { s.member with roster := v } } := by
  unfold State.setRoster
  split <;> exact ⟨_, rfl⟩

@[simp] theorem setRoster_tracker (s : State) (n : StationNo) (e : RosterEntry) : (s.setRoster n e).tracker = s.tracker := by
  obtain ⟨v, eq⟩ := setRoster_blocks s n e; rw [eq]
@[simp] theorem setRoster_channels (s : State) (n : StationNo) (e : RosterEntry) : (s.setRoster n e).channels = s.channels := by
  obtain ⟨v, eq⟩ := setRoster_blocks s n e; rw [eq]
@[simp] theorem setRoster_entry (s : State) (n : StationNo) (e : RosterEntry) (g : Tag) :
    (s.setRoster n e).entry g = s.entry g := entry_congr (setRoster_tracker s n e) g
@[simp] theorem setRoster_channel (s : State) (n : StationNo) (e : RosterEntry) (c : ChannelNo) :
    (s.setRoster n e).channel c = s.channel c := channel_congr (setRoster_channels s n e) c

/-- A write of the table that changes no presence changes no `isPresent`. -/
theorem isPresent_of_same_presence {s t : State}
    (same : ∀ n : Fin 31, (t.member.roster.get n).presence.isPresent = (s.member.roster.get n).presence.isPresent)
    (n : StationNo) : t.isPresent n = s.isPresent n := by
  unfold State.isPresent State.rosterEntry
  split
  · exact same _
  · rfl

/-- A station is PRESENT after a write of an event only where it was, or where it was heard. -/
theorem Update.present {s t : State} (h : Update s t) (n : StationNo) :
    t.isPresent n = s.isPresent n ∨
      (t.isPresent n = true ∧ n ≠ s.member.number ∧ s.host.resetLow = false) := by
  cases h with
  | inside h => exact .inl (by rcases h with h | ⟨g, e, free⟩ <;> [cases h; skip] <;> rfl)
  | member m same => exact .inl (isPresent_congr same.roster n)
  | heard p e present other high =>
    by_cases k : n = p ∧ p.toNat < 31
    · refine .inr ⟨?_, by rw [k.1]; exact other, high⟩
      rw [State.isPresent, rosterEntry_setRoster, if_pos k]
      exact present
    · refine .inl ?_
      rw [State.isPresent, rosterEntry_setRoster, if_neg k]
      rfl
  | roster v same => exact .inl (isPresent_of_same_presence (s := s) same n)
  | _ => exact .inl rfl

/-! ## Marks and timers (R34) -/

theorem Update.keeps_trackerTimers {s t : State} (h : Update s t) (hs : TrackerTimers s) : TrackerTimers t := by
  have set : ∀ (g : Tag) (e : Entry), EntryTimers e → TrackerTimers (s.setEntry g e) := fun g e timers u => by
    rw [entry_setEntry]
    split
    · exact timers
    · exact hs u
  cases h with
  | inside h =>
    rcases h with h | ⟨g, e, free, queued, timers⟩
    · cases h with
      | entry g e move => exact set g e (move.event.timers (hs g))
      | _ => exact hs
    · exact set g e timers
  | entries v h => exact fun g => (h g).timers (hs g)
  | heard n e => exact fun g => by rw [setRoster_entry]; exact hs g
  | _ => exact hs

theorem Changes.keeps_trackerTimers {s t : State} (h : Changes s t) (hs : TrackerTimers s) : TrackerTimers t :=
  h.keeps_of_writes (fun _ _ u => u.keeps_trackerTimers) (fun s p hs g => by rw [setRoster_entry]; exact hs g)
    (fun _ _ _ hs => hs) (fun _ _ hs => hs) hs

/-! ## One QUEUED entry (R14) -/

theorem not_queued_of_ownsQueued {s : State} {o : Owner} (none : s.ownsQueued o = false) (g : Tag)
    (owner : (s.entry g).owner = o) : (s.entry g).state ≠ .queued := by
  intro queued
  have : s.ownsQueued o = true := List.any_eq_true.mpr ⟨g, mem_allTags g, by simp [owner, queued]⟩
  rw [none] at this
  cases this

theorem Update.keeps_oneQueued {s t : State} (h : Update s t) (hs : OneQueued s) : OneQueued t := by
  have shrink : ∀ t : State, (∀ g, (t.entry g).owner = (s.entry g).owner ∧
      ((t.entry g).state = .queued → (s.entry g).state = .queued)) → OneQueued t := by
    intro t same c g u owner queued owner' queued'
    exact hs c g u ((same g).1 ▸ owner) ((same g).2 queued) ((same u).1 ▸ owner') ((same u).2 queued')
  cases h with
  | inside h =>
    rcases h with h | ⟨g, e, free, queued, timers, present, alone⟩
    · cases h with
      | entry g e move =>
        refine shrink _ fun u => ?_
        rw [entry_setEntry]
        split
        · next k => rw [k]; exact ⟨move.event.owner, move.event.queued⟩
        · exact ⟨rfl, id⟩
      | _ => exact hs
    · intro c a b ownerA queuedA ownerB queuedB
      rw [entry_setEntry] at ownerA queuedA ownerB queuedB
      split at ownerA <;> split at ownerB
      · next ha hb => rw [ha, hb]
      · next ha hb =>
        rw [if_neg hb] at queuedB
        exact absurd queuedB (not_queued_of_ownsQueued (alone c ownerA).1 b ownerB)
      · next ha hb =>
        rw [if_neg ha] at queuedA
        exact absurd queuedA (not_queued_of_ownsQueued (alone c ownerB).1 a ownerA)
      · next ha hb =>
        rw [if_neg ha] at queuedA
        rw [if_neg hb] at queuedB
        exact hs c a b ownerA queuedA ownerB queuedB
  | entries v h => exact shrink _ fun g => ⟨(h g).owner, (h g).queued⟩
  | heard n e => exact shrink _ fun g => by rw [setRoster_entry]; exact ⟨rfl, id⟩
  | _ => exact hs

theorem Changes.keeps_oneQueued {s t : State} (h : Changes s t) (hs : OneQueued s) : OneQueued t :=
  h.keeps_of_writes (fun _ _ u => u.keeps_oneQueued)
    (fun s p hs c g u => by rw [setRoster_entry, setRoster_entry]; exact hs c g u)
    (fun _ _ _ hs => hs) (fun _ _ hs => hs) hs

/-! ## The depth (R7, R14, R23) -/

theorem Update.keeps_withinDepth {s t : State} (h : Update s t) (hs : WithinDepth s) : WithinDepth t := by
  cases h with
  | inside h =>
    rcases h with h | ⟨g, e, free⟩
    · cases h with
      | channel c x move =>
        intro d
        rw [channel_setChannel]
        split
        · exact move.bound (hs c)
        · exact hs d
      | _ => exact hs
    · exact hs
  | channels v h => exact fun c => (h c).bound (hs c)
  | heard n e => exact fun c => by rw [setRoster_channel]; exact hs c
  | _ => exact hs

theorem Changes.keeps_withinDepth {s t : State} (h : Changes s t) (hs : WithinDepth s) : WithinDepth t :=
  h.keeps_of_writes (fun _ _ u => u.keeps_withinDepth) (fun s p hs c => by rw [setRoster_channel]; exact hs c)
    (fun _ _ _ hs => hs) (fun _ _ hs => hs) hs

/-! ## Capacities (R10, R75, R81, R94, R161) -/

theorem Update.keeps_withinCapacity {s t : State} (h : Update s t) (hs : WithinCapacity s) : WithinCapacity t := by
  obtain ⟨hold, queue, responses, notices, buffer⟩ := hs
  cases h with
  | inside h =>
    rcases h with h | ⟨g, e, free⟩
    · cases h with
      | rx r same =>
        refine ⟨hold, queue, responses, notices, ?_⟩
        rcases same with same | same
        · exact (congrArg List.length same).le.trans buffer
        · exact (congrArg List.length same).le.trans ((by simp : s.rx.buffer.tail.length ≤ s.rx.buffer.length).trans buffer)
      | notice src code online room =>
        exact ⟨hold, queue, responses, by simpa [State.appendNotice] using room, buffer⟩
      | respond r room => exact ⟨hold, queue, by simpa [State.placeResponse] using room, notices, buffer⟩
      | enqueue r online room => exact ⟨hold, by simpa using room, responses, notices, buffer⟩
      | _ => exact ⟨hold, queue, responses, notices, buffer⟩
    · exact ⟨hold, queue, responses, notices, buffer⟩
  | inbound i windows shorter fewer =>
    exact ⟨hold, shorter.trans queue, fewer.elim (fun h => h.trans responses) id, notices, buffer⟩
  | notices n shorter => exact ⟨hold, queue, responses, shorter.trans notices, buffer⟩
  | receiver r shorter => exact ⟨hold, queue, responses, notices, shorter.elim (fun h => h.trans buffer) id⟩
  | hold n limit => exact ⟨limit.elim (fun h => h.trans hold) id, queue, responses, notices, buffer⟩
  | heard n e =>
    obtain ⟨v, eq⟩ := setRoster_blocks s n e
    rw [eq]
    exact ⟨hold, queue, responses, notices, buffer⟩
  | _ => exact ⟨hold, queue, responses, notices, buffer⟩

theorem Changes.keeps_withinCapacity {s t : State} (h : Changes s t) (hs : WithinCapacity s) : WithinCapacity t :=
  h.keeps_of_writes (fun _ _ u => u.keeps_withinCapacity)
    (fun s p hs => by obtain ⟨v, eq⟩ := setRoster_blocks s p (s.rosterEntry p).lost; rw [eq]; exact hs)
    (fun _ _ _ hs => hs) (fun _ _ hs => hs) hs

/-! ## Windows, flags, garble count -/

theorem Changes.keeps_windowsAligned {s t : State} (h : Changes s t) (hs : WindowsAligned s) : WindowsAligned t := by
  intro n
  rw [h.settings.windows]
  exact hs n

/-- A flag's bit is one the map names. -/
theorem mask_named (f : EventFlag) : f.mask &&& ~~~latchedBits = 0 := by
  have channels : ∀ n : ChannelNo, (EventFlag.chEnd n).mask &&& ~~~latchedBits = 0 ∧
      (EventFlag.chErr n).mask &&& ~~~latchedBits = 0 := by decide
  cases f with
  | chEnd n => exact (channels n).1
  | chErr n => exact (channels n).2
  | _ => decide

/-- Two words within a mask are together within it, and so is a part of one. -/
theorem or_and_not_eq_zero {x y m : Word} (hx : x &&& ~~~m = 0) (hy : y &&& ~~~m = 0) : (x ||| y) &&& ~~~m = 0 := by
  have dist : (x ||| y) &&& ~~~m = (x &&& ~~~m) ||| (y &&& ~~~m) := by
    ext i; simp [Bool.and_or_distrib_right]
  rw [dist, hx, hy]
  decide

theorem and_and_not_eq_zero {x m : Word} (hx : x &&& ~~~m = 0) (w : Word) : (x &&& w) &&& ~~~m = 0 := by
  rw [BitVec.and_assoc, BitVec.and_comm w, ← BitVec.and_assoc, hx]
  exact BitVec.zero_and

theorem Update.keeps_flagBits {s t : State} (h : Update s t) (hs : FlagBits s) : FlagBits t := by
  obtain ⟨latched, enables⟩ := hs
  cases h with
  | inside h =>
    rcases h with h | ⟨g, e, free⟩
    · cases h with
      | raise f => exact ⟨or_and_not_eq_zero latched (mask_named f), enables⟩
      | _ => exact ⟨latched, enables⟩
    · exact ⟨latched, enables⟩
  | heard n e =>
    obtain ⟨v, eq⟩ := setRoster_blocks s n e
    rw [eq]
    exact ⟨latched, enables⟩
  | station st cause bound => exact ⟨or_and_not_eq_zero latched (mask_named .stationState), enables⟩
  | clear w => exact ⟨and_and_not_eq_zero latched w, enables⟩
  | _ => exact ⟨latched, enables⟩

theorem Changes.keeps_flagBits {s t : State} (h : Changes s t) (hs : FlagBits s) : FlagBits t :=
  h.keeps_of_writes (fun _ _ u => u.keeps_flagBits)
    (fun s p hs => by obtain ⟨v, eq⟩ := setRoster_blocks s p (s.rosterEntry p).lost; rw [eq]; exact hs)
    (fun _ _ _ hs => ⟨or_and_not_eq_zero hs.1 (mask_named .stationState), hs.2⟩) (fun _ _ hs => hs) hs

/-- The garble count after a write is within the bound, and at the limit only in CONFLICT with a silent unit (R143, R150). -/
theorem Update.keeps_garbleBound {s t : State} (h : Update s t) (hs : GarbleBound s) : GarbleBound t := by
  obtain ⟨bound, limit⟩ := hs
  cases h with
  | inside h =>
    rcases h with h | ⟨g, e, free⟩
    · cases h with
      | link l garble unit =>
        refine ⟨garble.le.trans bound, fun full => ?_⟩
        obtain ⟨conflict, silent⟩ := limit (garble.symm.trans full)
        exact ⟨conflict, unit.elim (fun u => u.trans silent) id⟩
      | _ => exact ⟨bound, limit⟩
    · exact ⟨bound, limit⟩
  | link l garble unit =>
    refine ⟨garble.elim (fun h => h.trans bound) Nat.le_of_lt, fun full => ?_⟩
    have full' : l.garble = Config.garbleLimit := full
    have atLimit : s.link.garble = Config.garbleLimit := by
      rcases garble with h | h
      · exact le_antisymm bound (full' ▸ h)
      · exact absurd full' h.ne
    obtain ⟨conflict, silent⟩ := limit atLimit
    refine ⟨conflict, ?_⟩
    rcases unit with h | h | h | h
    · exact h
    · exact h.trans silent
    · exact absurd silent h
    · exact absurd conflict h
  | member m same => exact ⟨bound, fun full => ⟨same.state.trans (limit full).1, (limit full).2⟩⟩
  | heard n e =>
    obtain ⟨v, eq⟩ := setRoster_blocks s n e
    rw [eq]
    exact ⟨bound, limit⟩
  | station st cause free =>
    refine ⟨bound, fun full => ?_⟩
    rcases free with h | h
    · exact absurd full h.ne
    · exact absurd (limit full).1 h
  | _ => exact ⟨bound, limit⟩

theorem raiseEnding_link (s : State) (c : ChannelNo) : (s.raiseEnding c).link = s.link := by
  unfold State.raiseEnding State.raiseIf
  repeat' split
  all_goals rfl

theorem endedChannels_link (s : State) (code : TermCode) : (endedChannels code s).link = s.silence.link := by
  have raised : ∀ (cs : List ChannelNo) (u : State), (cs.foldl State.raiseEnding u).link = u.link := by
    intro cs
    induction cs with
    | nil => exact fun _ => rfl
    | cons c cs ih => exact fun u => (ih _).trans (raiseEnding_link u c)
  rw [endedChannels, mapChannels_link]
  exact raised allChannels s.silence

theorem emptiedBlocks_link (s : State) : (emptiedBlocks s).link = s.link := rfl

theorem slotLost_link (s : State) : (slotLost s).link = s.link := by
  unfold slotLost
  split <;> rfl

/-- The common part of the two entries leaves the unit silent and the count as it was. -/
theorem quiesce_link (s : State) (code : TermCode) :
    (s.quiesce code).link.unit = .waiting ∧ (s.quiesce code).link.garble = s.link.garble := by
  obtain ⟨l, r, eq, unit, garble, -⟩ := silence_eq s
  rw [quiesce_eq, slotLost_link, emptiedBlocks_link, endedChannels_link, eq]
  exact ⟨unit, garble⟩

theorem enterConflict_link (s : State) (cause : ConflictCause) :
    (s.enterConflict cause).link = (s.quiesce .conflict).link := by
  rw [State.enterConflict]
  generalize s.quiesce .conflict = t
  rfl

theorem Change.keeps_garbleBound {s t : State} (h : Change s t) (hs : GarbleBound s) : GarbleBound t := by
  cases h with
  | update u => exact u.keeps_garbleBound hs
  | absent p =>
    unfold State.becomeAbsent
    split
    · refine (peerLost_updates _ p).keeps (fun _ _ u => u.keeps_garbleBound) ?_
      obtain ⟨v, eq⟩ := setRoster_blocks s p (s.rosterEntry p).lost
      rw [eq]
      exact hs
    · exact hs
  | offline => exact ⟨Nat.zero_le _, fun full => by cases full⟩
  | conflict l cause waits garble =>
    obtain ⟨unit, count⟩ := quiesce_link { s with link := l } .conflict
    have le : l.garble ≤ Config.garbleLimit := by
      obtain ⟨bound, limit⟩ := hs
      rcases garble with h | ⟨driving, h⟩
      · exact h.trans bound
      · have below : s.link.garble ≠ Config.garbleLimit := fun full => driving (limit full).2
        omega
    refine ⟨?_, fun _ => ⟨rfl, ?_⟩⟩
    · rw [enterConflict_link, count]
      exact le
    · rw [enterConflict_link, unit]

theorem Changes.keeps_garbleBound {s t : State} (h : Changes s t) (hs : GarbleBound s) : GarbleBound t :=
  h.keeps (fun _ _ c => c.keeps_garbleBound) hs

/-! ## The own number's roster entry (R120) -/

theorem Update.keeps_ownAbsent {s t : State} (h : Update s t) (hs : OwnAbsent s) : OwnAbsent t := by
  obtain ⟨own, low⟩ := hs
  refine ⟨?_, fun k n => ?_⟩
  · rw [h.settings.number]
    rcases h.present s.member.number with e | ⟨-, other, -⟩
    · rw [e]; exact own
    · exact absurd rfl other
  · rw [h.settings.resetLow] at k
    rcases h.present n with e | ⟨-, -, high⟩
    · rw [e]; exact low k n
    · rw [high] at k; cases k

theorem isPresent_setRoster_lost (s : State) (p n : StationNo) (e : RosterEntry) :
    (s.setRoster p e.lost).isPresent n = true → s.isPresent n = true ∧ n ≠ p := by
  rw [State.isPresent, rosterEntry_setRoster]
  split
  · next k => intro h; cases h
  · next k =>
    intro h
    refine ⟨h, fun e => k ⟨e, ?_⟩⟩
    subst e
    by_contra big
    simp [State.rosterEntry, big, Presence.isPresent] at h

theorem Changes.keeps_ownAbsent {s t : State} (h : Changes s t) (hs : OwnAbsent s) : OwnAbsent t :=
  h.keeps_of_writes (fun _ _ u => u.keeps_ownAbsent)
    (fun s p hs => by
      have shrink : ∀ n, s.isPresent n = false → (s.setRoster p (s.rosterEntry p).lost).isPresent n = false := fun n h => by
        by_contra k
        rw [(isPresent_setRoster_lost s p n _ (by simpa using k)).1] at h
        cases h
      have same := setRoster_settings s p (s.rosterEntry p).lost
      exact ⟨by rw [same.number]; exact shrink _ hs.1, fun low n => shrink n (hs.2 (same.resetLow ▸ low) n)⟩)
    (fun _ _ _ hs => hs) (fun _ _ hs => hs) hs

end Sys2Proof.Proofs
end


section
/-!
Releases and purges, entry by entry: what each leaves of the entry it is for, and that it leaves every other entry alone; then the
folds over the tags, and with them that no request stays in flight to an ABSENT peer.
-/

set_option Elab.async false

namespace Sys2Proof.Proofs

open Sys2Proof Sys2Proof.Machine Sys2Proof.Safety Sys2Proof.Laws

/-! ## One entry -/

/-- What an owner's release leaves of an entry (R42, R47). -/
def releasedEntry (e : Entry) : Entry :=
  match e.state with
  | .queued => e.freed
  | .live => e.abandon
  | .free | .abandoned | .quarantined => e

/-- What a peer's purge leaves of an entry (R58). -/
def purgedEntry (us : Micros) (e : Entry) : Entry :=
  match e.state with
  | .queued => e.freed
  | .live | .abandoned => e.quarantined us
  | .free | .quarantined => e

section
variable (s : State)

theorem freeQueued_entry (t g : Tag) : (s.freeQueued t).entry g = if g = t then (s.entry t).freed else s.entry g := by
  rw [State.freeQueued, entry_dequeueTag, entry_setEntry, dropFetch_entry, letGo_entry]

theorem releaseEntry_entry (t g : Tag) :
    (s.releaseEntry t).entry g = if g = t then releasedEntry (s.entry t) else s.entry g := by
  have same : s.entry g = if g = t then s.entry t else s.entry g := by
    split
    · next e => rw [e]
    · rfl
  cases h : (s.entry t).state with
  | queued => simpa only [State.releaseEntry, releasedEntry, h] using freeQueued_entry s t g
  | live => simp only [State.releaseEntry, releasedEntry, h, entry_setEntry, endLanding_entry]
  | free => simpa only [State.releaseEntry, releasedEntry, h] using same
  | abandoned => simpa only [State.releaseEntry, releasedEntry, h] using same
  | quarantined => simpa only [State.releaseEntry, releasedEntry, h] using same

theorem quarantineEntry_entry (t g : Tag) :
    (s.quarantineEntry t).entry g = if g = t then (s.entry t).quarantined s.responseTime else s.entry g := by
  rw [State.quarantineEntry, entry_setEntry, endLanding_entry]

theorem purgeEntry_entry (t g : Tag) :
    (s.purgeEntry t).entry g = if g = t then purgedEntry s.responseTime (s.entry t) else s.entry g := by
  have same : s.entry g = if g = t then s.entry t else s.entry g := by
    split
    · next e => rw [e]
    · rfl
  cases h : (s.entry t).state with
  | queued => simpa only [State.purgeEntry, purgedEntry, h] using freeQueued_entry s t g
  | live => simpa only [State.purgeEntry, purgedEntry, h] using quarantineEntry_entry s t g
  | abandoned => simpa only [State.purgeEntry, purgedEntry, h] using quarantineEntry_entry s t g
  | free => simpa only [State.purgeEntry, purgedEntry, h] using same
  | quarantined => simpa only [State.purgeEntry, purgedEntry, h] using same

end

/-! ## The folds -/

theorem allTags_nodup : allTags.Nodup := by decide

/-- A fold of operations that each write one tag's entry, by the same function `F` of that entry, writes each entry of its list
once; `F` may use the settings `m`. -/
theorem foldl_entry {f : State → Tag → State} {F : Entry → Entry} {m : Membership}
    (member : ∀ (s : State) (t : Tag), (f s t).member = s.member)
    (entry : ∀ (s : State) (t g : Tag), s.member = m → (f s t).entry g = if g = t then F (s.entry t) else s.entry g)
    {l : List Tag} (once : l.Nodup) (s : State) (hs : s.member = m) (g : Tag) :
    (l.foldl f s).entry g = if g ∈ l then F (s.entry g) else s.entry g := by
  induction l generalizing s with
  | nil => rfl
  | cons t l ih =>
    obtain ⟨fresh, once⟩ := List.nodup_cons.mp once
    rw [List.foldl_cons, ih once (f s t) ((member s t).trans hs), entry s t g hs]
    by_cases e : g = t
    · subst e
      simp [fresh]
    · simp [e]

section
variable (s : State)

theorem releaseEntry_member (t : Tag) : (s.releaseEntry t).member = s.member := (releaseEntry_working s t).member

theorem purgeEntry_member (t : Tag) : (s.purgeEntry t).member = s.member := (purgeEntry_working s t).member

/-- The owner's QUEUED entries are FREE and its LIVE ones ABANDONED; no other entry changes (R23). -/
theorem releaseOwner_entry (o : Owner) (g : Tag) :
    (s.releaseOwner o).entry g = if (s.entry g).owner = o then releasedEntry (s.entry g) else s.entry g := by
  have held : ∀ e : Entry, (if e.held o then releasedEntry e else e) = if e.owner = o then releasedEntry e else e := by
    intro e
    unfold Entry.held releasedEntry
    by_cases owner : e.owner = o
    · cases h : e.state <;> simp [owner]
    · simp [owner]
  have fold := foldl_entry (f := fun s t => if (s.entry t).held o then s.releaseEntry t else s)
    (F := fun e => if e.held o then releasedEntry e else e) (m := s.member)
    (fun u t => by split; exacts [releaseEntry_member u t, rfl])
    (fun u t g _ => by
      split
      · exact releaseEntry_entry u t g
      · split
        · next e => rw [e]
        · rfl)
    allTags_nodup s rfl g
  rw [if_pos (mem_allTags g)] at fold
  exact fold.trans (held _)

/-- The purge without its reports. -/
def purgedTracker (s : State) (p : StationNo) : State :=
  allTags.foldl (fun s t => if (s.entry t).peer = p then s.purgeEntry t else s) s

theorem purgedTracker_entry (p : StationNo) (g : Tag) :
    (purgedTracker s p).entry g = if (s.entry g).peer = p then purgedEntry s.responseTime (s.entry g) else s.entry g := by
  have fold := foldl_entry (f := fun s t => if (s.entry t).peer = p then s.purgeEntry t else s)
    (F := fun e => if e.peer = p then purgedEntry s.responseTime e else e) (m := s.member)
    (fun u t => by split; exacts [purgeEntry_member u t, rfl])
    (fun u t g hu => by
      have time : u.responseTime = s.responseTime := by rw [State.responseTime, hu, ← State.responseTime]
      split
      · rw [purgeEntry_entry, time]
      · split
        · next e => rw [e]
        · rfl)
    allTags_nodup s rfl g
  rwa [if_pos (mem_allTags g)] at fold

theorem purgedTracker_working (p : StationNo) : Working s (purgedTracker s p) :=
  Working.foldl _ (fun s t => by
    split
    · exact purgeEntry_working s t
    · exact .refl) allTags s

/-- The tags whose owners have PEER_LOST (R58). -/
def lostTags (s : State) (p : StationNo) : List Tag :=
  allTags.filter fun t => (s.entry t).peer = p && ((s.entry t).state = .queued || (s.entry t).state = .live)

theorem purgeTracker_eq (p : StationNo) : s.purgeTracker p =
    (lostTags s p).foldl (fun u t => u.report (s.entry t).owner t .peerLost) (purgedTracker s p) := rfl

end

/-! ## No request in flight to an ABSENT peer (R58) -/

theorem not_inFlight_purgedEntry (us : Micros) (e : Entry) : ¬ InFlight (purgedEntry us e) := by
  unfold purgedEntry InFlight
  cases h : e.state <;> simp [Entry.freed, Entry.quarantined, h]

theorem Update.keeps_noAbsentPeer {s t : State} (h : Update s t) (timers : TrackerTimers s) (hs : NoAbsentPeer s) :
    NoAbsentPeer t := by
  have stays : ∀ n, s.isPresent n = true → t.isPresent n = true := fun n k =>
    (h.present n).elim (fun e => e.trans k) (fun e => e.1)
  have shrink : (∀ g, (t.entry g).peer = (s.entry g).peer ∧ (InFlight (t.entry g) → InFlight (s.entry g))) →
      NoAbsentPeer t := fun same g flight => by
    rw [(same g).1]
    exact stays _ (hs g ((same g).2 flight))
  cases h with
  | inside h =>
    rcases h with h | ⟨g, e, free, queued, _, present, alone⟩
    · cases h with
      | entry g e move =>
        refine shrink fun u => ?_
        rw [entry_setEntry]
        split
        · next k => rw [k]; exact ⟨move.event.peer, move.event.flight (timers g)⟩
        · exact ⟨rfl, id⟩
      | _ => exact hs
    · intro u flight
      rw [entry_setEntry] at flight ⊢
      split at flight
      · next k => rw [if_pos k]; exact present
      · next k => rw [if_neg k]; exact hs u flight
  | entries v h => exact shrink fun g => ⟨(h g).peer, (h g).flight (timers g)⟩
  | heard n e => exact shrink fun g => by rw [setRoster_entry]; exact ⟨rfl, id⟩
  | roster v same => exact shrink fun g => ⟨rfl, id⟩
  | member m same => exact shrink fun g => ⟨rfl, id⟩
  | _ => exact hs

/-- A chain of writes keeps both. -/
theorem Updates.keeps_noAbsentPeer {s t : State} (h : Updates s t) (timers : TrackerTimers s) (hs : NoAbsentPeer s) :
    NoAbsentPeer t :=
  (h.keeps (P := fun u => TrackerTimers u ∧ NoAbsentPeer u)
    (fun _ _ u h => ⟨u.keeps_trackerTimers h.1, u.keeps_noAbsentPeer h.1 h.2⟩) ⟨timers, hs⟩).2

/-- A peer that becomes ABSENT leaves no request in flight to it (R58, R126). -/
theorem becomeAbsent_keeps_noAbsentPeer {s : State} (p : StationNo) (timers : TrackerTimers s) (hs : NoAbsentPeer s) :
    NoAbsentPeer (s.becomeAbsent p) := by
  unfold State.becomeAbsent
  split
  · set u := s.setRoster p (s.rosterEntry p).lost with hu
    have timersU : TrackerTimers u := fun g => by rw [hu, setRoster_entry]; exact timers g
    have purged := purgedTracker_working u p
    have rest : Updates (purgedTracker u p) (u.peerLost p) := by
      rw [State.peerLost, purgeTracker_eq]
      exact (Working.foldl _ (fun v t => report_working v _ t _) _ _).updates.trans (purgeInbound_updates _ p)
    refine rest.keeps_noAbsentPeer (purged.updates.keeps (fun _ _ u => u.keeps_trackerTimers) timersU) fun g flight => ?_
    rw [isPresent_congr (congrArg Membership.roster purged.member)]
    rw [purgedTracker_entry] at flight ⊢
    split at flight
    · exact absurd flight (not_inFlight_purgedEntry _ _)
    · next other =>
      rw [if_neg other]
      rw [hu, setRoster_entry] at flight other ⊢
      rw [State.isPresent, rosterEntry_setRoster, if_neg fun h => other h.1]
      exact hs g flight
  · exact hs

theorem slotLost_entry (s : State) (g : Tag) : (slotLost s).entry g = s.entry g := by
  unfold slotLost
  split <;> rfl

theorem emptiedBlocks_entry (s : State) (g : Tag) : (emptiedBlocks s).entry g = (s.entry g).freed := mapTable_get _ _ g

/-- The two entries leave no request in flight. -/
theorem not_inFlight_quiesce (s : State) (code : TermCode) (g : Tag) : ¬ InFlight ((s.quiesce code).entry g) := by
  rw [quiesce_eq, slotLost_entry, emptiedBlocks_entry]
  simp [InFlight, Entry.freed]

theorem enterOffline_tracker (s : State) : s.enterOffline.tracker = (s.quiesce .left).tracker := by
  unfold State.enterOffline
  generalize s.quiesce .left = u
  rfl

theorem enterConflict_tracker (s : State) (cause : ConflictCause) :
    (s.enterConflict cause).tracker = (s.quiesce .conflict).tracker := by
  unfold State.enterConflict
  generalize s.quiesce .conflict = u
  rfl

theorem Change.keeps_noAbsentPeer {s t : State} (h : Change s t) (timers : TrackerTimers s) (hs : NoAbsentPeer s) :
    NoAbsentPeer t := by
  cases h with
  | update u => exact u.keeps_noAbsentPeer timers hs
  | absent p => exact becomeAbsent_keeps_noAbsentPeer p timers hs
  | offline =>
    intro g flight
    rw [entry_congr (enterOffline_tracker s)] at flight
    exact absurd flight (not_inFlight_quiesce s .left g)
  | conflict l cause =>
    intro g flight
    rw [entry_congr (enterConflict_tracker _ cause)] at flight
    exact absurd flight (not_inFlight_quiesce _ .conflict g)

theorem Changes.keeps_noAbsentPeer {s t : State} (h : Changes s t) (timers : TrackerTimers s) (hs : NoAbsentPeer s) :
    NoAbsentPeer t :=
  (h.keeps (P := fun u => TrackerTimers u ∧ NoAbsentPeer u)
    (fun _ _ c h => ⟨Changes.keeps_trackerTimers (.single c) h.1, c.keeps_noAbsentPeer h.1 h.2⟩) ⟨timers, hs⟩).2

end Sys2Proof.Proofs
end


section
/-!
What a command can do: every one of the 55 is a chain of writes and station changes, but for the host's own writes of settings,
the resets, and the word that a transfer's end adds (`Event`).
-/

set_option Elab.async false

namespace Sys2Proof.Proofs

open Sys2Proof Sys2Proof.Machine Sys2Proof.Safety Sys2Proof.Laws

/-! ## Writes that several commands share -/

section
variable (s : State)

theorem Working.changes {s t : State} (h : Working s t) : Changes s t := Updates.changes h.updates

theorem Update.changes {s t : State} (h : Update s t) : Changes s t := .single (.update h)

theorem settle_changes : Changes s s.settle := (settle_updates s).changes

theorem member_changes (m : Membership) (same : SameStation s.member m) : Changes s { s with member := m } :=
  (Update.member s m same).changes

theorem appendControl_changes (k : ControlKind) : Changes s (s.appendControl k) :=
  member_changes s _ ⟨rfl, rfl, rfl, rfl, rfl⟩

theorem setSlot_changes (x : Slot) : Changes s (s.setSlot x) := (Update.notices s { s.notices with slot := x } le_rfl).changes

theorem refuse_changes (code : BitVec 8) (op : BitVec 3) (reason : RefusalReason) : Changes s (s.refuse code op reason) :=
  (recordRefusal_updates s _).changes

theorem lockedWrite_changes (offset : BitVec 10) : Changes s (s.lockedWrite offset) := (recordRefusal_updates s _).changes

theorem channelCommand_changes (code : BitVec 8) (op : BitVec 3) {f : ChannelNo → State → State}
    (hf : ∀ c, Changes s (f c s)) : Changes s (s.channelCommand code op f) := by
  unfold State.channelCommand
  split
  · exact hf _
  · exact refuse_changes s _ _ _

theorem modifyChannel_changes {c : ChannelNo} {f : Channel → Channel}
    (bound : ChannelBound (s.channel c) → ChannelBound (f (s.channel c)))
    (desc : (f (s.channel c)).desc = (s.channel c).desc := by rfl) : Changes s (s.modifyChannel c f) :=
  (modifyChannel_updates s ⟨desc, bound⟩).changes

theorem Changes.foldl {α : Type} (f : State → α → State) (hf : ∀ s a, Changes s (f s a)) (l : List α) (s : State) :
    Changes s (l.foldl f s) := by
  induction l generalizing s with
  | nil => exact .refl
  | cons a l ih => exact (hf s a).trans (ih (f s a))

/-- The silence of the pair is the first thing the entries to OFFLINE and CONFLICT make. -/
theorem silence_silence : s.silence.silence = s.silence := by
  obtain ⟨l, r, eq, unit, -⟩ := silence_eq s
  rw [eq]
  unfold State.silence
  rw [show ({ s with link := l, rx := r } : State).link.unit = .waiting from unit]

theorem enterConflict_silence (cause : ConflictCause) : s.silence.enterConflict cause = s.enterConflict cause := by
  unfold State.enterConflict
  rw [quiesce_eq, quiesce_eq, endedChannels, endedChannels, silence_silence]

theorem enterConflict_changes (cause : ConflictCause) : Changes s (s.enterConflict cause) := by
  rw [← enterConflict_silence]
  obtain ⟨l, r, eq, unit, -⟩ := silence_eq s
  have waits : s.silence.link.unit = .waiting := by rw [eq]; exact unit
  exact (silence_working s).changes.tail (.conflict s.silence s.silence.link cause waits (.inl le_rfl))

end

/-! ## The host's commands -/

section
variable (s : State)

theorem join_changes (op : BitVec 3) : Changes s (State.join op s) := by
  unfold State.join
  split
  · exact refuse_changes s _ _ _
  · next offline =>
    split
    · refine (Update.changes (.station s .listening .none (.inr ?_))).trans (member_changes _ _ ⟨rfl, rfl, rfl, rfl, rfl⟩)
      rw [not_not.mp offline]
      decide
    · exact refuse_changes s _ _ _

/-- The station state is LEAVING and the drain timer runs (R111). -/
def drainStarted (s : State) : State :=
  let s := s.setStation .leaving .none
  { s with member := { s.member with drain := some (Config.drainBudgets * s.responseTime) } }

theorem startLeaving_eq : s.startLeaving =
    ((drainStarted s).withdrawControl ControlKind.helloOnline).appendControl (.hello .leaving false) := rfl

theorem startLeaving_changes (online : s.member.state = .online) : Changes s s.startLeaving := by
  have entered : Changes s (s.setStation .leaving .none) := (Update.station s _ _ (.inr (by rw [online]; decide))).changes
  have started : Changes s (drainStarted s) := entered.trans (member_changes _ _ ⟨rfl, rfl, rfl, rfl, rfl⟩)
  rw [startLeaving_eq]
  exact (started.trans (withdrawControl_updates _ _).changes).trans (appendControl_changes _ _)

theorem leave_changes (op : BitVec 3) : Changes s (State.leave op s) := by
  unfold State.leave
  split
  · next online => exact (startLeaving_changes s online).trans (settle_changes _)
  · exact .single (.offline s)
  all_goals exact refuse_changes s _ _ _

theorem hold_changes (n : Nat) (limit : n ≤ s.holdDepth ∨ n ≤ Config.holdLimit) : Changes s { s with holdDepth := n } :=
  (Update.hold s n limit).changes

theorem mapChannels_changes {f : Channel → Channel} (h : ∀ x, ChannelEvent x (f x)) : Changes s (s.mapChannels f) :=
  (mapChannels_updates s h).changes

theorem holdUp_changes (op : BitVec 3) : Changes s (State.holdUp op s) := by
  unfold State.holdUp
  split
  · next below =>
    refine (hold_changes s (s.holdDepth + 1) (.inr below)).trans ?_
    exact mapChannels_changes _ (f := fun ch => { ch with waiting := false }) fun _ => ⟨rfl, id⟩
  · exact refuse_changes s _ _ _

theorem holdDown_changes (op : BitVec 3) : Changes s (State.holdDown op s) := by
  unfold State.holdDown
  split
  · exact refuse_changes s _ _ _
  · split
    · exact (hold_changes s 0 (.inl (Nat.zero_le _))).trans (settle_changes _)
    · exact hold_changes s _ (.inl (Nat.sub_le _ _))

theorem sendNotice_changes (op : BitVec 3) : Changes s (State.sendNotice op s) := by
  unfold State.sendNotice
  dsimp only
  split
  · exact refuse_changes s _ _ _
  · split
    · exact refuse_changes s _ _ _
    · exact (setSlot_changes s _).trans (settle_changes _)

theorem popNotice_changes (op : BitVec 3) : Changes s (State.popNotice op s) := by
  unfold State.popNotice
  split
  · exact refuse_changes s _ _ _
  · next n rest queue =>
    refine (Update.notices s { s.notices with queue := rest } ?_).changes
    simp [queue]

theorem clearCounters_changes : Changes s s.clearCounters :=
  (Update.receiver s { s.rx with badFrame := 0, stale := 0, dropped := 0 } (.inl le_rfl)).changes

theorem chEnable_changes (op : BitVec 3) (c : ChannelNo) : Changes s (State.chEnable op c s) := by
  unfold State.chEnable
  dsimp only
  split
  · exact refuse_changes s _ _ _
  · split
    · exact modifyChannel_changes s fun _ => channelBound_no_records rfl
    · exact (modifyChannel_changes s (f := fun ch => { ch with code := .badDescriptor }) id).trans (refuse_changes _ _ _ _)

theorem trigger_changes (c : ChannelNo) : Changes s (s.trigger c) := by
  have overrun : Changes s ((s.modifyChannel c fun ch => { ch with overrun := true }).raise .overrun) :=
    (modifyChannel_changes s (f := fun ch => { ch with overrun := true }) id).tail (.update (.inside (.inl (.raise _ _))))
  unfold State.trigger
  dsimp only
  split
  · exact .refl
  · split
    · exact overrun
    · exact modifyChannel_changes s id
  all_goals exact overrun

theorem startAndSettle_changes (c : ChannelNo) : Changes s (s.startAndSettle c) := by
  unfold State.startAndSettle
  split
  · exact (startIfDue_working s c).changes.trans (settle_changes _)
  · exact .refl

theorem chStart_changes (op : BitVec 3) (c : ChannelNo) : Changes s (State.chStart op c s) := by
  unfold State.chStart
  split
  · exact refuse_changes s _ _ _
  · exact (trigger_changes s c).trans (startAndSettle_changes _ c)

/-- A pause and a resumption take no channel to OFF or ARMED. -/
theorem paused_bound (ch : Channel) (h : ChannelBound ch) : ChannelBound ch.paused := by
  obtain ⟨count, length, idle⟩ := h
  refine ⟨count, length, fun k => idle ?_⟩
  simp only [Channel.paused] at k
  split at k
  · rcases k with k | k <;> cases k
  · exact k

theorem resumed_bound (ch : Channel) (h : ChannelBound ch) : ChannelBound ch.resumed := by
  obtain ⟨count, length, idle⟩ := h
  refine ⟨count, length, fun k => idle ?_⟩
  simp only [Channel.resumed] at k
  split at k
  · rcases k with k | k <;> cases k
  · exact k

theorem chPause_changes (op : BitVec 3) (c : ChannelNo) : Changes s (State.chPause op c s) := by
  unfold State.chPause
  split
  · exact refuse_changes s _ _ _
  · exact modifyChannel_changes s (paused_bound _)

theorem chResume_changes (op : BitVec 3) (c : ChannelNo) : Changes s (State.chResume op c s) := by
  have resume : Changes s (s.modifyChannel c Channel.resumed).settle :=
    (modifyChannel_changes s (resumed_bound _)).trans (settle_changes _)
  unfold State.chResume
  split
  · exact refuse_changes s _ _ _
  · exact .refl
  all_goals exact resume

theorem chAbort_changes (op : BitVec 3) (c : ChannelNo) : Changes s (State.chAbort op c s) := by
  unfold State.chAbort
  split
  · exact refuse_changes s _ _ _
  · exact (endChannel_updates s c _ _).changes.trans (settle_changes _)

theorem chDisable_changes (op : BitVec 3) (c : ChannelNo) : Changes s (State.chDisable op c s) := by
  unfold State.chDisable
  split
  · next armed =>
    refine modifyChannel_changes s fun h => ?_
    obtain ⟨_, _, idle⟩ := h
    exact channelBound_no_records (idle (.inr armed))
  · exact refuse_changes s _ _ _

/-! ## Register writes, trigger lines, internal steps -/

theorem writeHnSend_changes (v : Word) : Changes s (State.writeHnSend v s) := by
  unfold State.writeHnSend
  split
  · exact lockedWrite_changes s _
  · exact setSlot_changes s _

theorem clearFlags_changes (v : Word) : Changes s (State.clearFlags v s) := (Update.clear s (~~~v)).changes

theorem clearChanges_presence (v : Word) (n : Nat) (es : List RosterEntry) :
    (clearChanges v n es).map RosterEntry.presence = es.map RosterEntry.presence := by
  induction es generalizing n with
  | nil => rfl
  | cons e es ih => simp [clearChanges, ih]

theorem clearChangeFlags_changes (v : Word) : Changes s (State.clearChangeFlags v s) := by
  refine (Update.roster s _ fun n => ?_).changes
  have same := clearChanges_presence v 0 s.member.roster.toList
  have at_n := congrArg (fun l : List Presence => l[n.val]?) same
  simp only [List.getElem?_map] at at_n
  have len : n.val < s.member.roster.toList.length := by simp
  have len' : n.val < (clearChanges v 0 s.member.roster.toList).length := by rw [clearChanges_length]; exact len
  rw [List.getElem?_eq_getElem len, List.getElem?_eq_getElem len', Option.map_some, Option.map_some,
    Option.some_inj] at at_n
  simpa [Vector.get_eq_getElem] using congrArg Presence.isPresent at_n

theorem triggerEdge_changes (line : Fin 2) : Changes s (State.triggerEdge line s) := by
  have edge : Changes s (s.edge line) := Changes.foldl _ (fun s c => by
    split
    · exact trigger_changes s c
    · exact .refl) allChannels s
  unfold State.triggerEdge
  dsimp only
  split
  · exact edge.trans (settle_changes _)
  · exact edge

theorem Inside.changes {s t : State} (h : Inside s t) : Changes s t := Updates.changes (Inside.updates h)

theorem settleFrom_changes (old : List (ChannelNo × BurstRequest)) : Changes s (s.settleFrom old) :=
  (settleFrom_updates s old).changes

theorem segmentIssue_changes (n : ChannelNo) : Changes s (State.segmentIssue n s) := by
  unfold State.segmentIssue
  split
  · exact ((askChannel_working s n).changes.trans (Inside.changes (allocateTags_inside _))).trans (settleFrom_changes _ _)
  · exact .refl

theorem tagAllocation_changes : Changes s s.tagAllocation := by
  unfold State.tagAllocation
  split
  · exact (Inside.changes (allocateTags_inside s)).trans (settleFrom_changes _ _)
  · exact .refl

theorem frameDispatch_changes : Changes s s.frameDispatch := by
  unfold State.frameDispatch
  split
  · exact (dispatchHead_working s).changes.trans (settle_changes _)
  · exact .refl

/-- A final answer of the engine is held, or takes a free place (R80, R81). -/
theorem engineAnswer_changes (a : Response) : Changes s (s.engineAnswer a) := by
  unfold State.engineAnswer
  split
  · exact (Update.inbound s { s.inbound with engine := .answering a } rfl le_rfl (.inl le_rfl)).changes
  · next room =>
    refine (Update.inbound s { s.inbound with
      queue := s.inbound.queue.tail, responses := s.inbound.responses ++ [a], engine := .idle } rfl ?_ (.inr ?_)).changes
    · simp
    · simpa [State.responsesFull] using room

theorem placeHeldAnswer_changes : Changes s s.placeHeldAnswer := by
  unfold State.placeHeldAnswer
  split
  · exact engineAnswer_changes s _
  · exact .refl

theorem engineAnswerPlaced_changes : Changes s s.engineAnswerPlaced := by
  unfold State.engineAnswerPlaced
  split
  · split
    · exact .refl
    · exact (placeHeldAnswer_changes s).trans (settle_changes _)
  · exact .refl

end

end Sys2Proof.Proofs
end


section
/-!
The events of the link, the bus and the timers as chains of writes, and with them every command and every step.
-/

set_option Elab.async false

namespace Sys2Proof.Proofs

open Sys2Proof Sys2Proof.Machine Sys2Proof.Safety Sys2Proof.Laws

section
variable (s : State)

/-! ## The link -/

theorem receiver_changes (r : Receiver) (buffer : r.buffer = s.rx.buffer) : Changes s { s with rx := r } :=
  (Update.receiver s r (.inl (le_of_eq (congrArg List.length buffer)))).changes

/-- A write of the link that keeps the count and the unit. -/
theorem link_changes (l : LinkUnit) (garble : l.garble = s.link.garble) (unit : l.unit = s.link.unit) :
    Changes s { s with link := l } := (Update.link s l (.inl garble.le) (.inr (.inl unit))).changes

theorem frameGap_changes : Changes s s.frameGap := by
  unfold State.frameGap
  split
  · exact receiver_changes s _ rfl
  · exact .refl

theorem roundGap_changes : Changes s s.roundGap := by
  unfold State.roundGap
  split
  · exact link_changes s _ rfl rfl
  · exact .refl

theorem startBit_changes : Changes s s.startBit := by
  unfold State.startBit
  dsimp only
  split
  · exact (receiver_changes s { s.rx with state := .framing, inProgress := some {} } rfl).trans
      (link_changes { s with rx := { s.rx with state := .framing, inProgress := some {} } } { s.link with idle := 0 } rfl rfl)
  · exact link_changes s { s.link with idle := 0 } rfl rfl

theorem candidate_of_conflict (conflict : s.member.state = .conflict) : s.candidate = none := by
  simp [State.candidate, conflict]

theorem claimStart_changes : Changes s s.claimStart := by
  unfold State.claimStart
  split
  · split
    · next f chosen =>
      have claims : Changes s { s with link := { s.link with unit := .claiming f, idle := 0 } } :=
        .single (.update (.link s _ (.inl le_rfl) (.inr (.inr (.inr fun conflict => by
          rw [candidate_of_conflict s conflict] at chosen
          cases chosen)))))
      exact claims.tail (.update (.receiver _ _ (.inl le_rfl)))
    · exact .refl
  · exact .refl

theorem claimLost_changes : Changes s s.claimLost := by
  unfold State.claimLost
  split
  · exact (stopDriving_working s).changes
  · exact .refl

theorem setEntry_changes {g : Tag} {e : Entry} (h : EntryEvent (s.entry g) e) : Changes s (s.setEntry g e) :=
  (setEntry_updates s h).changes

/-- The sending mark is part of a QUEUED entry (R34, R40). -/
theorem sendingMark_event {e : Entry} (queued : e.state = .queued) (mark : Bool) :
    EntryEvent e { e with sendingMark := mark } :=
  ⟨rfl, rfl, fun ⟨_, landing, deadline, quarantine⟩ => ⟨fun _ => queued, landing, deadline, quarantine⟩, id, fun _ => id⟩

theorem setSending_changes (f : FrameRef) (mark : Bool) : Changes s (s.setSending f mark) := by
  cases f with
  | response =>
    refine (Update.inbound s { s.inbound with responses := match s.inbound.responses with
      | r :: rest => { r with sending := mark } :: rest
      | [] => [] } rfl le_rfl (.inl ?_)).changes
    cases s.inbound.responses <;> simp
  | dataSlot => exact (Update.inbound s { s.inbound with
      dataSlot := s.inbound.dataSlot.map fun d => { d with sending := mark } } rfl le_rfl (.inl le_rfl)).changes
  | control => exact (setControl_updates s _).changes
  | entry t =>
    unfold State.setSending
    dsimp only
    split
    · next queued => exact setEntry_changes s (sendingMark_event queued mark)
    · exact .refl

theorem setSending_link (f : FrameRef) (mark : Bool) : (s.setSending f mark).link = s.link := by
  cases f with
  | entry t => unfold State.setSending; dsimp only; split <;> rfl
  | _ => rfl

theorem claimWon_changes : Changes s s.claimWon := by
  unfold State.claimWon
  split
  · next f claiming =>
    have sending : Changes (s.setSending f true)
        { s.setSending f true with link := { (s.setSending f true).link with unit := .sending f, idle := 0 } } :=
      .single (.update (.link _ _ (.inl le_rfl) (.inr (.inr (.inl (by rw [setSending_link s f true, claiming]; simp))))))
    exact ((setSending_changes s f true).trans sending).tail (.update (.receiver _ _ (.inl le_rfl)))
  · exact .refl

/-! ## Clean ends of a send -/

theorem Working.garble {s t : State} (h : Working s t) : t.link.garble = s.link.garble :=
  h.keeps (P := fun u => u.link.garble = s.link.garble)
    (fun u v w e => by
      cases w with
      | link l garble => exact garble.trans e
      | _ => exact e) rfl

/-- QUEUED to LIVE: marks cleared, the deadline running (R41). -/
theorem sent_event {e : Entry} (queued : e.state = .queued) (us : Micros) :
    EntryEvent e { e with state := .live, sendingMark := false, deadline := some us } := by
  refine ⟨rfl, rfl, fun ⟨_, landing, _, quarantine⟩ => ?_, by simp, fun _ _ => .inl queued⟩
  simp only [queued] at landing quarantine
  refine ⟨by simp, fun _ => rfl, by simp, ?_⟩
  simpa using quarantine

theorem entrySent_changes (t : Tag) : Changes s (s.entrySent t) := by
  unfold State.entrySent
  dsimp only
  split
  · next queued =>
    refine Relation.ReflTransGen.tail (b := _) ?_ (.update (.inside (.inl (.order _ _))))
    split
    · next c _ _ =>
      exact (modifyChannel_changes s (c := c) (f := fun ch => { ch with payload := none }) id).trans
        (setEntry_changes _ (sent_event queued _))
    · exact setEntry_changes s (sent_event queued _)
  · exact .refl

theorem inbound_changes (i : Inbound) (windows : i.windows = s.inbound.windows)
    (queue : i.queue.length ≤ s.inbound.queue.length) (responses : i.responses.length ≤ s.inbound.responses.length) :
    Changes s { s with inbound := i } := (Update.inbound s i windows queue (.inl responses)).changes

theorem dataSent_changes : Changes s s.dataSent := by
  unfold State.dataSent
  have emptied : Changes s { s with inbound := { s.inbound with dataSlot := none } } :=
    inbound_changes s _ rfl le_rfl le_rfl
  dsimp only
  split
  · split
    · exact emptied.tail (.update (.inside (.inl (.port _ _))))
    · exact emptied.trans (inbound_changes _ _ rfl (by simp) le_rfl)
  · exact emptied

theorem controlSent_changes (clean : s.link.garble < Config.garbleLimit) : Changes s s.controlSent := by
  unfold State.controlSent
  split
  · next c rest _ =>
    have taken : Changes s (s.setControl rest) := (setControl_updates s rest).changes
    dsimp only
    split
    · have entered : Changes (s.setControl rest) ((s.setControl rest).setStation .online .none) :=
        .single (.update (.station _ _ _ (.inl clean)))
      exact (taken.trans entered).trans (member_changes _ _ ⟨rfl, rfl, rfl, rfl, rfl⟩)
    · exact taken.tail (.offline _)
    · exact taken
  · exact .refl

theorem producerSent_changes (f : FrameRef) (clean : s.link.garble < Config.garbleLimit) :
    Changes s (s.producerSent f) := by
  cases f with
  | entry t => exact entrySent_changes s t
  | response => exact inbound_changes s { s.inbound with responses := s.inbound.responses.tail } rfl le_rfl (by simp)
  | dataSlot => exact dataSent_changes s
  | control => exact controlSent_changes s clean

/-- What every clean end does before the producer's step: the unit silent, the count 0, the heartbeat restarted, the HELLO of
its timer withdrawn (R107, R144). -/
def cleanEnd (f : FrameRef) (s : State) : State :=
  let s := ((s.afterSend f).stopDriving).rxSkip
  let s := { s with
    link := { s.link with garble := 0 }
    member := { s.member with heartbeat := s.member.heartbeat.restart } }
  s.withdrawControl ControlKind.byTimer

theorem withdrawControl_garble (p : ControlKind → Bool) : (s.withdrawControl p).link.garble = s.link.garble := by
  unfold State.withdrawControl
  dsimp only
  rw [setControl_link]
  split
  · split
    · exact (letGo_working s _).garble
    · rfl
  · rfl

theorem cleanEnd_changes (f : FrameRef) : Changes s (cleanEnd f s) := by
  have ended : Working s ((s.afterSend f).stopDriving).rxSkip :=
    ((afterSend_working s f).trans (stopDriving_working _)).trans (rxSkip_working _)
  unfold cleanEnd
  dsimp only
  generalize ((s.afterSend f).stopDriving).rxSkip = u at ended
  have zero : Changes u { u with link := { u.link with garble := 0 } } :=
    .single (.update (.link u _ (.inl (Nat.zero_le _)) (.inr (.inl rfl))))
  exact ((ended.changes.trans zero).trans
    (member_changes _ { u.member with heartbeat := u.member.heartbeat.restart } ⟨rfl, rfl, rfl, rfl, rfl⟩)).trans
    (withdrawControl_updates _ _).changes

theorem cleanEnd_garble (f : FrameRef) : (cleanEnd f s).link.garble = 0 := withdrawControl_garble _ _

theorem sendCleanEnd_of_sending {f : FrameRef} (sending : s.link.unit = .sending f) :
    s.sendCleanEnd = ((cleanEnd f s).producerSent f).settle := by
  rw [State.sendCleanEnd, sending]
  rfl

theorem sendCleanEnd_changes : Changes s s.sendCleanEnd := by
  cases sending : s.link.unit with
  | sending f =>
    rw [sendCleanEnd_of_sending s sending]
    have clean : (cleanEnd f s).link.garble < Config.garbleLimit := by rw [cleanEnd_garble]; decide
    exact ((cleanEnd_changes s f).trans (producerSent_changes _ f clean)).trans (settle_changes _)
  | waiting => rw [State.sendCleanEnd, sending]
  | claiming f => rw [State.sendCleanEnd, sending]

/-! ## Garbled ends of a send -/

theorem producerGarbled_changes (f : FrameRef) : Changes s (s.producerGarbled f) := by
  unfold State.producerGarbled
  dsimp only
  refine (setSending_changes s f false).trans ?_
  split
  · split
    · split
      · split
        · exact (setControl_updates _ _).changes
        · exact .refl
      · exact .refl
    · exact .refl
  · exact .refl

theorem producerGarbled_link_write (l : LinkUnit) (f : FrameRef) :
    State.producerGarbled { s with link := l } f = { s.producerGarbled f with link := l } := by
  have mark : State.setSending { s with link := l } f false = { s.setSending f false with link := l } := by
    cases f with
    | entry t =>
      unfold State.setSending
      dsimp only
      have same : ({ s with link := l } : State).entry t = s.entry t := rfl
      rw [same]
      split <;> rfl
    | _ => rfl
  unfold State.producerGarbled
  rw [mark]
  dsimp only
  cases f with
  | control =>
    dsimp only
    split
    · split
      · split <;> rfl
      · rfl
    · rfl
  | _ => rfl

theorem producerGarbled_link (f : FrameRef) : (s.producerGarbled f).link = s.link := by
  have eq : s.producerGarbled f = { s.producerGarbled f with link := s.link } := producerGarbled_link_write s s.link f
  rw [eq]

/-- A garbled end below the limit raises the count; at the limit it is the entry to CONFLICT with the count raised (R143). -/
theorem garbledEnd_changes (f : FrameRef) (silent : s.link.unit = .waiting) (below : s.link.garble + 1 < Config.garbleLimit) :
    Changes s (s.garbledEnd f) := by
  unfold State.garbledEnd
  dsimp only
  rw [producerGarbled_link, if_neg (Nat.not_le.mpr below)]
  have counted : Changes s { s with link := { s.link with garble := s.link.garble + 1 } } :=
    .single (.update (.link s _ (.inr below) (.inl silent)))
  exact counted.trans (producerGarbled_changes _ f)

theorem garbledEnd_of_limit (f : FrameRef) (limit : Config.garbleLimit ≤ s.link.garble + 1) : s.garbledEnd f =
    State.enterConflict { s.producerGarbled f with link := { s.link with garble := s.link.garble + 1 } } .garbled := by
  unfold State.garbledEnd
  dsimp only
  rw [producerGarbled_link, if_pos limit, producerGarbled_link_write]

/-- The send or claim of `f` ends garbled: `u` is the state in which the unit has stopped driving. -/
theorem garbledEnd_changes_of_driving (f : FrameRef) {v : State} (l : LinkUnit) (unit : l.unit = .waiting)
    (garble : l.garble = s.link.garble) (driving : s.link.unit ≠ .waiting) (work : Working s v)
    (same : v.link.unit = s.link.unit) : Changes s (State.garbledEnd { v with link := l } f) := by
  by_cases limit : Config.garbleLimit ≤ l.garble + 1
  · rw [garbledEnd_of_limit _ f limit, producerGarbled_link_write]
    refine (work.changes.trans (producerGarbled_changes v f)).tail
      (.conflict (v.producerGarbled f) { l with garble := l.garble + 1 } .garbled unit (.inr ⟨?_, ?_⟩))
    · rw [producerGarbled_link, same]; exact driving
    · rw [producerGarbled_link, work.garble]; exact (congrArg (· + 1) garble).le
  · have stops : Changes v { v with link := l } :=
      .single (.update (.link v l (.inl (le_of_eq (garble.trans work.garble.symm))) (.inl unit)))
    exact (work.changes.trans stops).trans (garbledEnd_changes _ f unit (Nat.lt_of_not_le limit))

theorem sendGarbled_changes : Changes s s.sendGarbled := by
  unfold State.sendGarbled
  split
  · next f sending =>
    obtain ⟨l, eq, unit, garble, -⟩ := afterSend_eq s f
    have skip : ((s.afterSend f).stopDriving).rxSkip =
        { s.rxSkip with link := { l with unit := .waiting, idle := 0 } } := by
      rw [eq]
      unfold State.stopDriving State.rxSkip
      dsimp only
      split <;> rfl
    rw [skip]
    exact garbledEnd_changes_of_driving s f _ rfl garble (by rw [sending]; simp) (rxSkip_working s) (by rw [rxSkip_link])
  · next f claiming =>
    obtain ⟨l, eq, unit, garble, -⟩ := afterSend_eq s f
    have stop : (s.afterSend f).stopDriving = { s with link := { l with unit := .waiting, idle := 0 } } := by
      rw [eq]; rfl
    rw [stop]
    exact garbledEnd_changes_of_driving s f _ rfl garble (by rw [claiming]; simp) .refl rfl
  · exact .refl

/-! ## Heard frames -/

theorem setRoster_changes {n : StationNo} {e : RosterEntry} (present : e.presence.isPresent = true)
    (other : n ≠ s.member.number) (high : s.host.resetLow = false) : Changes s (s.setRoster n e) :=
  (Update.heard s n e present other high).changes

theorem rosterHears_changes (src : StationNo) (body : FrameBody) (other : src ≠ s.member.number)
    (high : s.host.resetLow = false) : Changes s (s.rosterHears src body) := by
  unfold State.rosterHears
  dsimp only
  split
  · exact .single (.absent s src)
  · split
    · exact (setRoster_changes s rfl other high).trans (peerLost_updates _ src).changes
    · exact setRoster_changes s rfl other high
  all_goals exact setRoster_changes s rfl other high

theorem offerFrame_changes (f : Frame) : Changes s (s.offerFrame f) := by
  unfold State.offerFrame
  split
  · split
    · next room =>
      exact (Update.receiver s { s.rx with buffer := s.rx.buffer ++ [f] } (.inr (by simpa using room))).changes
    · exact (countDropped_working s).changes
  · exact .refl

theorem frameJudged_changes (claim : BitVec 7) (bytes : List Byte) (high : s.host.resetLow = false) :
    Changes s (State.frameJudged claim bytes s) := by
  unfold State.frameJudged
  split
  · unfold State.judge
    have skipping : Changes s { s with rx := { s.rx with state := .skipping, inProgress := none } } :=
      receiver_changes s _ rfl
    set u : State := { s with rx := { s.rx with state := .skipping, inProgress := none } } with hu
    dsimp only
    split
    · exact skipping.trans (receiver_changes _ _ rfl)
    · next f _ =>
      refine (skipping.trans ?_).trans (settle_changes _)
      unfold State.validFrame
      split
      · split
        · exact enterConflict_changes u _
        · exact enterConflict_changes u _
        · exact enterConflict_changes u _
        · exact .refl
        · exact .refl
      · next other => exact (rosterHears_changes u _ _ other high).trans (offerFrame_changes _ f)
  · exact .refl

/-! ## The timers -/

theorem deadlineExpiry_changes (t : Tag) : Changes s (State.deadlineExpiry t s) := by
  unfold State.deadlineExpiry
  dsimp only
  split
  · split
    · next live =>
      exact ((quarantineEntry_working s (.inl live)).changes.trans (report_working _ _ _ _).changes).trans (settle_changes _)
    · next abandoned => exact (quarantineEntry_working s (.inr abandoned)).changes.trans (settle_changes _)
    all_goals exact .refl
  · exact .refl

theorem quarantineExpiry_changes (t : Tag) : Changes s (State.quarantineExpiry t s) := by
  unfold State.quarantineExpiry
  split
  · exact (setEntry_changes s (freed_event _)).trans (settle_changes _)
  · exact .refl

theorem outstanding_modify_le (i : Nat) (f : SegRecord → SegRecord) (hf : ∀ r, (f r).isOutstanding = false)
    (l : List SegRecord) : ((l.modify i f).filter SegRecord.isOutstanding).length ≤
      (l.filter SegRecord.isOutstanding).length := by
  induction l generalizing i with
  | nil => simp
  | cons r l ih =>
    cases i with
    | zero =>
      by_cases k : r.isOutstanding = true
      · simp [hf, k]
      · simp [hf, k]
    | succ i =>
      by_cases k : r.isOutstanding = true
      · simpa [k] using ih i
      · simpa [k] using ih i

theorem recordPending_bound (ch : Channel) (r : Nat) (h : ChannelBound ch) : ChannelBound (ch.recordPending r) := by
  obtain ⟨count, length, idle⟩ := h
  refine ⟨(outstanding_modify_le r _ (fun _ => rfl) _).trans count, by simpa [Channel.recordPending] using length, fun k => ?_⟩
  simp [Channel.recordPending, idle k]

theorem segmentBackoffExpiry_changes (n : ChannelNo) (r : Fin 4) : Changes s (State.segmentBackoffExpiry n r s) := by
  unfold State.segmentBackoffExpiry
  split
  · split
    · exact (modifyChannel_changes s (f := fun ch => ch.recordPending r.val) (recordPending_bound _ _)).trans (settle_changes _)
    · exact .refl
  · exact .refl

theorem endNoticeBackoffExpiry_changes (n : ChannelNo) : Changes s (State.endNoticeBackoffExpiry n s) := by
  unfold State.endNoticeBackoffExpiry
  split
  · next x _ =>
    split
    · have waits : Changes s (s.setNotice n { x with phase := .waiting }) := modifyChannel_changes s id
      exact waits.trans (settle_changes _)
    · exact .refl
  · exact .refl

theorem hostNoticeBackoffExpiry_changes : Changes s s.hostNoticeBackoffExpiry := by
  unfold State.hostNoticeBackoffExpiry
  dsimp only
  split
  · exact (setSlot_changes s _).trans (settle_changes _)
  · exact .refl

theorem listenTimerExpiry_changes : Changes s s.listenTimerExpiry := by
  unfold State.listenTimerExpiry
  split
  · exact member_changes s _ ⟨rfl, rfl, rfl, rfl, rfl⟩
  · exact .refl

theorem heartbeatTimerExpiry_changes : Changes s s.heartbeatTimerExpiry := by
  unfold State.heartbeatTimerExpiry
  split
  · dsimp only
    split
    · split <;> exact member_changes s _ ⟨rfl, rfl, rfl, rfl, rfl⟩
    · exact member_changes s _ ⟨rfl, rfl, rfl, rfl, rfl⟩
  · exact .refl

theorem forceInbound_changes : Changes s s.forceInbound := by
  unfold State.forceInbound
  dsimp only
  have stop : Changes s (match s.link.unit with
      | .claiming .response => s.stopDriving
      | .claiming .dataSlot => s.stopDriving
      | _ => s) := by
    split
    · exact (stopDriving_working s).changes
    · exact (stopDriving_working s).changes
    · exact .refl
  refine (stop.trans (engineStop_updates _).changes).trans ?_
  exact inbound_changes _ _ rfl (Nat.zero_le _) (List.length_filter_le _ _)

theorem forceSlot_working : Working s s.forceSlot := by
  unfold State.forceSlot
  split
  · next sending =>
    refine (releaseOwner_working s .host).trans (finishSlot_working _ ?_ _ _)
    rw [releaseOwner_notices, sending]
    rfl
  · exact .refl

theorem forceDrain_changes : Changes s s.forceDrain := by
  unfold State.forceDrain
  dsimp only
  have channels : Changes s (allChannels.foldl State.forceChannel s) := Changes.foldl _ (fun s c => by
    unfold State.forceChannel
    split
    · exact (endChannel_updates s c _ _).changes
    · exact .refl) _ s
  generalize allChannels.foldl State.forceChannel s = u at channels
  exact ((channels.trans (forceSlot_working u).changes).trans (forceInbound_changes _)).trans
    (member_changes _ _ ⟨rfl, rfl, rfl, rfl, rfl⟩)

theorem drainTimerExpiry_changes : Changes s s.drainTimerExpiry := by
  unfold State.drainTimerExpiry
  split
  · exact (forceDrain_changes s).trans (settle_changes _)
  · exact .refl

theorem silenceTimerExpiry_changes (n : Fin 31) : Changes s (State.silenceTimerExpiry n s) := by
  unfold State.silenceTimerExpiry
  split
  · exact (Relation.ReflTransGen.single (.absent s (stationOf n))).trans (settle_changes _)
  · exact .refl

/-! ## The local bus -/

theorem port_changes (p : Port) : Changes s { s with port := p } := .single (.update (.inside (.inl (.port s p))))

theorem busGrant_changes : Changes s s.busGrant := by
  unfold State.busGrant
  split
  · split <;> exact port_changes s _
  · exact .refl

/-- A landing that ends cleanly clears its mark (R56). -/
theorem landed_event (e : Entry) (n : Nat) : EntryEvent e { e with landingMark := false, received := n } :=
  ⟨rfl, rfl, fun ⟨sending, _, deadline, quarantine⟩ => ⟨sending, by simp, deadline, quarantine⟩, id, fun _ => id⟩

theorem popBuffer_changes : Changes s s.popBuffer := (popBuffer_working s).changes

theorem landed_changes : Changes s s.landed := by
  unfold State.landed
  split
  · next t f rest _ _ =>
    split
    · next p _ =>
      dsimp only
      have counted := (setEntry_changes s (landed_event (s.entry t) ((s.entry t).received + p.length))).trans
        (popBuffer_changes _)
      split
      · refine counted.trans ?_
        exact (setEntry_changes _ (freed_event _)).trans (report_working _ _ _ _).changes
      · exact counted
    · exact .refl
  · exact .refl

theorem landingMark_of_landingTag {t : Tag} (h : s.landingTag = some t) : (s.entry t).landingMark = true := by
  simpa using List.find?_some h

/-- An entry whose landing fails was LIVE (R34, R57). -/
theorem abandon_event {e : Entry} (landing : e.landingMark = true) : EntryEvent e e.abandon := by
  refine ⟨rfl, rfl, fun h => ?_, by simp [Entry.abandon], fun h _ => ?_⟩
  · exact (EntryWork.abandon (h.2.1 landing)).event.timers h
  · exact .inr (.inl (h.2.1 landing))

theorem landingError_changes : Changes s s.landingError := by
  unfold State.landingError
  split
  · next t found =>
    exact ((setEntry_changes s (abandon_event (landingMark_of_landingTag s found))).trans (popBuffer_changes _)).trans
      (report_working _ _ _ _).changes
  · exact .refl

theorem serviceDone_changes (words : List Word) : Changes s (s.serviceDone words) := by
  unfold State.serviceDone
  split
  · exact engineAnswer_changes s _
  · exact inbound_changes s _ rfl le_rfl le_rfl
  · exact .refl

theorem serviceError_changes : Changes s s.serviceError := by
  unfold State.serviceError
  split
  · split
    · exact engineAnswer_changes s _
    · exact engineAnswer_changes s _
    all_goals exact .refl
  · exact .refl

theorem reportEnd_changes (b : Burst) : Changes s (s.reportEnd b) := by
  unfold State.reportEnd
  split
  · exact .refl
  · split
    · exact landed_changes s
    · exact serviceDone_changes s _
    · exact modifyChannel_changes s id

theorem reportError_changes (b : Burst) : Changes s (s.reportError b) := by
  unfold State.reportError
  split
  · exact .refl
  · split
    · exact landingError_changes s
    · exact serviceError_changes s
    · exact (endChannel_updates s _ _ _).changes

theorem busError_changes (b : Burst) : Changes s (State.busError b s) :=
  ((port_changes s _).trans (reportError_changes _ b)).trans (settle_changes _)

theorem wordWritten_eq (x : WordTransfer) : ∃ l, s.wordWritten x = { s with ramWrites := l } := by
  unfold State.wordWritten
  split <;> exact ⟨_, rfl⟩

end

/-! ## Every command -/

/-- What a command makes of a state: a chain of writes and station changes, or one of the host's writes of settings, a reset, or
a word written on the local bus and then such a chain. -/
inductive Event : Instr → State → State → Prop
  | changes {i : Instr} {s t : State} (h : Changes s t) : Event i s t
  | word {i : Instr} {s t : State} (l : List (Word × Word))
      (transfer : ∃ w : Word, i = .wordTransferEnd w ∨ i = .burstEnd w) (h : Changes { s with ramWrites := l } t) : Event i s t
  | number (v : Word) (s : State) (offline : s.member.state = .offline) :
      Event (.stnNumberWrite v) s (s.setNumber (v.extractLsb' 0 5))
  | timing (v : Word) (s : State) (r : BitVec 12) (h : BitVec 8) (offline : s.member.state = .offline) :
      Event (.timingWrite v) s { s with member := { s.member with tResp := r, tHb := h } }
  | window (n : Fin 8) (w : Fin 4) (v : Word) (s : State) (offline : s.member.state = .offline) :
      Event (.windowTableWrite n w v) s { s with inbound := { s.inbound with
        windows := s.inbound.windows.set n.val ((s.inbound.windows.get n).writeWord w v) n.isLt } }
  | descriptor (c : ChannelNo) (w : Fin 8) (v : Word) (s : State) (off : (s.channel c).state = .off) :
      Event (.descriptorWrite c w v) s (s.modifyChannel c fun ch => { ch with desc := ch.desc.writeWord w v })
  | enables (v : Word) (s : State) : Event (.evtEnableWrite v) s (State.writeEnables v s)
  | stationReset (op : BitVec 3) (s : State) : Event (.stationReset op) s s.stationReset
  | hardwareReset (s : State) : Event .hardwareReset s s.hardwareReset
  | release (straps : BitVec 5) (s : State) (low : s.host.resetLow = true) :
      Event (.resetRelease straps) s (State.release straps s)

theorem takes_event {i : Instr} {s t : State} {f : State → State} (acts : s.host.resetLow = false → Event i s (f s))
    (h : s.takes f = .next t) : Event i s t := by
  cases low : s.host.resetLow with
  | true =>
    rw [takes_low low, Host.Outcome.next.injEq] at h
    exact h ▸ .changes .refl
  | false =>
    rw [takes_up low, Host.Outcome.next.injEq] at h
    exact h ▸ acts low

theorem takes_changes {i : Instr} {s t : State} {f : State → State} (acts : Changes s (f s)) (h : s.takes f = .next t) :
    Event i s t := takes_event (fun _ => .changes acts) h

theorem tailDone_event {i : Instr} {s : State} (transfer : ∃ w : Word, i = .wordTransferEnd w ∨ i = .burstEnd w) :
    Event i s s.tailDone := by
  unfold State.tailDone
  split
  · next w _ =>
    obtain ⟨l, eq⟩ := wordWritten_eq { s with port := { s.port with tail := none } } w
    rw [eq]
    exact .word l transfer (port_changes { s with ramWrites := l } _)
  · exact .changes .refl

theorem wordTransferEnd_event {w : Word} {s t : State} (h : execWordTransferEnd w s = .next t) :
    Event (.wordTransferEnd w) s t := by
  unfold execWordTransferEnd at h
  split at h
  · next b _ =>
    rw [Host.Outcome.next.injEq] at h
    subst h
    split
    · obtain ⟨l, eq⟩ := wordWritten_eq s b.current
      dsimp only
      rw [eq]
      exact .word l ⟨w, .inl rfl⟩ (port_changes { s with ramWrites := l } _)
    · exact .changes .refl
  · rw [Host.Outcome.next.injEq] at h
    exact h ▸ tailDone_event ⟨w, .inl rfl⟩

theorem burstEnd_event {w : Word} {s t : State} (h : execBurstEnd w s = .next t) : Event (.burstEnd w) s t := by
  unfold execBurstEnd at h
  split at h
  · next b _ =>
    rw [Host.Outcome.next.injEq] at h
    subst h
    split
    · obtain ⟨l, eq⟩ := wordWritten_eq s b.current
      unfold State.burstEnd
      rw [eq]
      exact .word l ⟨w, .inr rfl⟩
        (((port_changes { s with ramWrites := l } _).trans (reportEnd_changes _ _)).trans (settle_changes _))
    · exact .changes .refl
  · rw [Host.Outcome.next.injEq] at h
    exact h ▸ tailDone_event ⟨w, .inr rfl⟩

theorem busError_event {s t : State} (h : execBusError s = .next t) : Event .busError s t := by
  unfold execBusError at h
  split at h
  · rw [Host.Outcome.next.injEq] at h
    exact h ▸ .changes (busError_changes s _)
  · rw [Host.Outcome.next.injEq] at h
    exact h ▸ .changes (port_changes s _)

theorem registerWrite_event {i : Instr} {s t : State} {f : State → State} (p : Prop) [Decidable p] {g : State} {offset : BitVec 10}
    (eq : f s = if p then g else s.lockedWrite offset) (acts : p → Event i s g) (h : s.takes f = .next t) : Event i s t := by
  refine takes_event (fun _ => ?_) h
  rw [eq]
  split
  · next hp => exact acts hp
  · exact .changes (lockedWrite_changes s _)

theorem channelCommand_event {i : Instr} {s t : State} (code : BitVec 8) (op : BitVec 3) (f : ChannelNo → State → State)
    (acts : ∀ c, Changes s (f c s)) (h : (s.takes fun s => s.channelCommand code op f) = .next t) : Event i s t :=
  takes_changes (channelCommand_changes s code op acts) h

/-- Every command's next state is the outcome of an event. -/
theorem exec_event {i : Instr} {s t : State} (h : exec i s = .next t) : Event i s t := by
  cases i with
  | join op => exact takes_changes (join_changes s op) h
  | leave op => exact takes_changes (leave_changes s op) h
  | stationReset op => exact takes_event (fun _ => .stationReset op s) h
  | holdUp op => exact takes_changes (holdUp_changes s op) h
  | holdDown op => exact takes_changes (holdDown_changes s op) h
  | sendNotice op => exact takes_changes (sendNotice_changes s op) h
  | popNotice op => exact takes_changes (popNotice_changes s op) h
  | clearCounters op => exact takes_changes (clearCounters_changes s) h
  | chEnable op => exact channelCommand_event 0x10 op (State.chEnable op) (fun c => chEnable_changes s op c) h
  | chStart op => exact channelCommand_event 0x11 op (State.chStart op) (fun c => chStart_changes s op c) h
  | chPause op => exact channelCommand_event 0x12 op (State.chPause op) (fun c => chPause_changes s op c) h
  | chResume op => exact channelCommand_event 0x13 op (State.chResume op) (fun c => chResume_changes s op c) h
  | chAbort op => exact channelCommand_event 0x14 op (State.chAbort op) (fun c => chAbort_changes s op c) h
  | chDisable op => exact channelCommand_event 0x15 op (State.chDisable op) (fun c => chDisable_changes s op c) h
  | unknownCommandCode code op =>
    have h' : execUnknownCommandCode code op s = .next t := h
    unfold execUnknownCommandCode at h'
    split at h'
    · cases h'
    · exact takes_changes (refuse_changes s _ _ _) h'
  | stnNumberWrite v => exact registerWrite_event _ rfl (fun offline => .number v s offline) h
  | timingWrite v => exact registerWrite_event _ rfl (fun offline => .timing v s _ _ offline) h
  | windowTableWrite n w v => exact registerWrite_event _ rfl (fun offline => .window n w v s offline) h
  | descriptorWrite c w v => exact registerWrite_event _ rfl (fun off => .descriptor c w v s off) h
  | hnSendWrite v => exact takes_changes (writeHnSend_changes s v) h
  | evtFlagsWrite v => exact takes_changes (clearFlags_changes s v) h
  | evtEnableWrite v => exact takes_event (fun _ => .enables v s) h
  | rosterChangeWrite v => exact takes_changes (clearChangeFlags_changes s v) h
  | otherRegisterWrite a v =>
    have h' : execOtherRegisterWrite a v s = .next t := h
    unfold execOtherRegisterWrite at h'
    split at h'
    · cases h'
    · rw [Host.Outcome.next.injEq] at h'
      exact h' ▸ .changes .refl
  | hardwareReset =>
    have h' : Host.Outcome.next s.hardwareReset = .next t := h
    rw [Host.Outcome.next.injEq] at h'
    exact h' ▸ .hardwareReset s
  | resetRelease straps =>
    have h' : Host.Outcome.next (if s.host.resetLow then s.release straps else s) = .next t := h
    rw [Host.Outcome.next.injEq] at h'
    subst h'
    split
    · next low => exact .release straps s low
    · exact .changes .refl
  | triggerEdge line => exact takes_changes (triggerEdge_changes s line) h
  | channelStart n => exact takes_changes (startAndSettle_changes s n) h
  | segmentIssue n => exact takes_changes (segmentIssue_changes s n) h
  | tagAllocation => exact takes_changes (tagAllocation_changes s) h
  | frameGap => exact takes_changes (frameGap_changes s) h
  | roundGap => exact takes_changes (roundGap_changes s) h
  | claimStart => exact takes_changes (claimStart_changes s) h
  | claimLost => exact takes_changes (claimLost_changes s) h
  | claimWon => exact takes_changes (claimWon_changes s) h
  | sendCleanEnd => exact takes_changes (sendCleanEnd_changes s) h
  | sendGarbled => exact takes_changes (sendGarbled_changes s) h
  | frameJudged claim bytes => exact takes_event (fun high => .changes (frameJudged_changes s claim bytes high)) h
  | frameDispatch => exact takes_changes (frameDispatch_changes s) h
  | deadlineExpiry g => exact takes_changes (deadlineExpiry_changes s g) h
  | quarantineExpiry g => exact takes_changes (quarantineExpiry_changes s g) h
  | segmentBackoffExpiry n r => exact takes_changes (segmentBackoffExpiry_changes s n r) h
  | endNoticeBackoffExpiry n => exact takes_changes (endNoticeBackoffExpiry_changes s n) h
  | hostNoticeBackoffExpiry => exact takes_changes (hostNoticeBackoffExpiry_changes s) h
  | listenTimerExpiry => exact takes_changes (listenTimerExpiry_changes s) h
  | heartbeatTimerExpiry => exact takes_changes (heartbeatTimerExpiry_changes s) h
  | drainTimerExpiry => exact takes_changes (drainTimerExpiry_changes s) h
  | drainEnd => exact takes_changes (checkDrain_updates s).changes h
  | silenceTimerExpiry n => exact takes_changes (silenceTimerExpiry_changes s n) h
  | busGrant => exact takes_changes (busGrant_changes s) h
  | burstEnd w => exact burstEnd_event h
  | busError => exact busError_event h
  | engineAnswerPlaced => exact takes_changes (engineAnswerPlaced_changes s) h
  | startBit => exact takes_changes (startBit_changes s) h
  | wordTransferEnd w => exact wordTransferEnd_event h

end Sys2Proof.Proofs
end


section
/-!
The invariants of every step: one microsecond is a chain of writes too, and the host's own writes and the resets meet each
invariant by what they write.
-/

set_option Elab.async false

namespace Sys2Proof.Proofs

open Sys2Proof Sys2Proof.Machine Sys2Proof.Safety Sys2Proof.Laws

/-! ## One microsecond -/

theorem tick_outstanding (r : SegRecord) (h : r.tick.isOutstanding = true) : r.isOutstanding = true := by
  unfold SegRecord.tick at h
  split at h
  · cases h
  · exact h

theorem channelTick_event (ch : Channel) : ChannelEvent ch ch.tick := by
  refine ⟨rfl, fun ⟨count, length, idle⟩ => ⟨?_, by simpa [Channel.tick] using length, fun k => ?_⟩⟩
  · exact (outstanding_map_le _ tick_outstanding _).trans count
  · simp [Channel.tick, idle k]

theorem entryTick_event (e : Entry) : EntryEvent e e.tick := by
  refine ⟨rfl, rfl, fun ⟨sending, landing, deadline, quarantine⟩ => ⟨sending, landing, ?_, ?_⟩, id, fun _ => id⟩
  · simpa [Entry.tick, tickDown] using deadline
  · simpa [Entry.tick, tickDown] using quarantine

theorem rosterTick_present (e : RosterEntry) : e.tick.presence.isPresent = e.presence.isPresent := by
  cases presence : e.presence <;> simp [RosterEntry.tick, Presence.tick, presence, Presence.isPresent]

theorem tick_changes (s : State) : Changes s s.tick := by
  unfold State.tick
  split
  · exact .refl
  · have channels := mapChannels_changes s channelTick_event
    have entries : Changes s { s with
        channels := mapTable Channel.tick s.channels
        tracker := { s.tracker with entries := mapTable Entry.tick s.tracker.entries } } :=
      channels.tail (.update (.entries _ _ fun g => by rw [mapTable_get]; exact entryTick_event _))
    have slot : Changes s { s with
        channels := mapTable Channel.tick s.channels
        tracker := { s.tracker with entries := mapTable Entry.tick s.tracker.entries }
        notices := { s.notices with slot := s.notices.slot.tick } } := entries.trans (setSlot_changes _ _)
    have member : Changes s { s with
        channels := mapTable Channel.tick s.channels
        tracker := { s.tracker with entries := mapTable Entry.tick s.tracker.entries }
        notices := { s.notices with slot := s.notices.slot.tick }
        member := { s.member.tick with roster := s.member.roster } } :=
      slot.tail (.update (.member _ _ ⟨rfl, rfl, rfl, rfl, rfl⟩))
    have roster : Changes s { s with
        channels := mapTable Channel.tick s.channels
        tracker := { s.tracker with entries := mapTable Entry.tick s.tracker.entries }
        notices := { s.notices with slot := s.notices.slot.tick }
        member := s.member.tick } :=
      member.tail (.update (.roster _ (mapTable RosterEntry.tick s.member.roster) fun n => by
        rw [mapTable_get]; exact rosterTick_present _))
    refine roster.trans (link_changes _ _ ?_ ?_) <;> unfold State.tickIdle <;> split <;> rfl

/-- What every event and every chain of writes keeps, and what does not speak of the queue, every step keeps. -/
theorem step_keeps {P : State → Prop} (queue : ∀ (s : State) (l : List Instr), P s → P { s with pending := l })
    (changes : ∀ s t : State, Changes s t → P s → P t) (event : ∀ (i : Instr) (s t : State), Event i s t → P s → P t)
    {s t : State} (hs : P s) (h : step s = .next t) : P t := by
  unfold step at h
  split at h
  · exact event _ _ t (exec_event h) (queue s _ hs)
  · rw [Host.Outcome.next.injEq] at h
    exact h ▸ changes s _ (tick_changes s) hs

/-! ## The resets -/

section
variable (s : State)

@[simp] theorem stationReset_entry (g : Tag) : s.stationReset.entry g = {} := by
  simp [State.entry, State.stationReset, Vector.get_eq_getElem]

@[simp] theorem hardwareReset_entry (g : Tag) : s.hardwareReset.entry g = {} := by
  simp [State.entry, State.hardwareReset, State.reset, Vector.get_eq_getElem]

@[simp] theorem stationReset_channel (c : ChannelNo) : s.stationReset.channel c = (s.channel c).stationReset := by
  simp [State.channel, State.stationReset]

@[simp] theorem hardwareReset_channel (c : ChannelNo) : s.hardwareReset.channel c = {} := by
  simp [State.channel, State.hardwareReset, State.reset, Vector.get_eq_getElem]

theorem isPresent_of_empty_roster {t : State} (roster : t.member.roster = Vector.replicate 31 {}) (n : StationNo) :
    t.isPresent n = false := by
  unfold State.isPresent State.rosterEntry
  split
  · simp [roster, Vector.get_eq_getElem, Presence.isPresent]
  · rfl

/-- Entries as both resets leave them. -/
theorem entryTimers_fresh : EntryTimers {} := by simp [EntryTimers]

end

/-! ## The tracker's invariants -/

theorem becomeAbsent_changes (s : State) (n : StationNo) : Changes s (s.becomeAbsent n) := .single (.absent s n)

/-- An invariant of tracker and channels: what the chains of writes keep, and the writes of settings leave alone, holds after
every event if both resets meet it and a descriptor may be written where its channel is OFF. -/
theorem event_keeps_tables {P : State → Prop} (changes : ∀ s t : State, Changes s t → P s → P t)
    (tables : ∀ s t : State, t.channels = s.channels → t.tracker = s.tracker → P s → P t)
    (descriptor : ∀ (s : State) (c : ChannelNo) (w : Fin 8) (v : Word), (s.channel c).state = .off → P s →
      P (s.modifyChannel c fun ch => { ch with desc := ch.desc.writeWord w v }))
    (resets : ∀ s : State, P s → P s.stationReset ∧ P s.hardwareReset) {i : Instr} {s t : State} (h : Event i s t) (hs : P s) :
    P t := by
  cases h with
  | changes h => exact changes _ _ h hs
  | word l transfer h => exact changes _ _ h (tables s _ rfl rfl hs)
  | number v offline => exact changes _ _ (becomeAbsent_changes _ _) (tables s _ rfl rfl hs)
  | descriptor c w v _ off => exact descriptor s c w v off hs
  | stationReset op => exact (resets s hs).1
  | hardwareReset => exact (resets s hs).2
  | timing v r h => exact tables s _ rfl rfl hs
  | window n w v => exact tables s _ rfl rfl hs
  | enables v => exact tables s _ rfl rfl hs
  | release straps => exact tables s _ rfl rfl hs

theorem event_keeps_trackerTimers {i : Instr} {s t : State} (h : Event i s t) (hs : TrackerTimers s) : TrackerTimers t := by
  refine event_keeps_tables (fun _ _ => Changes.keeps_trackerTimers) ?_ ?_ ?_ h hs
  · exact fun s t _ tracker hs g => by rw [entry_congr tracker]; exact hs g
  · exact fun s c w v _ hs => hs
  · exact fun s _ => ⟨fun g => by rw [stationReset_entry]; exact entryTimers_fresh,
      fun g => by rw [hardwareReset_entry]; exact entryTimers_fresh⟩

/-- Settles O56: every write keeps an entry's marks and timers to the states that have them. -/
theorem stepKeepsTrackerTimers : Obligations.StepKeepsTrackerTimers := by
  intro s t hs h
  exact step_keeps (P := TrackerTimers) (fun _ _ hs => hs) (fun _ _ => Changes.keeps_trackerTimers)
    (fun _ _ _ => event_keeps_trackerTimers) hs h

theorem event_keeps_oneQueued {i : Instr} {s t : State} (h : Event i s t) (hs : OneQueued s) : OneQueued t := by
  refine event_keeps_tables (fun _ _ => Changes.keeps_oneQueued) ?_ ?_ ?_ h hs
  · exact fun s t _ tracker hs c g u => by rw [entry_congr tracker, entry_congr tracker]; exact hs c g u
  · exact fun s c w v _ hs => hs
  · refine fun s _ => ⟨fun c g u _ queued => ?_, fun c g u _ queued => ?_⟩
    · rw [stationReset_entry] at queued; cases queued
    · rw [hardwareReset_entry] at queued; cases queued

theorem event_keeps_withinDepth {i : Instr} {s t : State} (h : Event i s t) (hs : WithinDepth s) : WithinDepth t := by
  refine event_keeps_tables (fun _ _ => Changes.keeps_withinDepth) ?_ ?_ ?_ h hs
  · exact fun s t channels _ hs c => by rw [channel_congr channels]; exact hs c
  · intro s c w v off hs d
    rw [channel_modifyChannel]
    split
    · obtain ⟨_, _, idle⟩ := hs c
      exact channelBound_no_records (ch := { s.channel c with desc := _ }) (idle (.inl off))
    · exact hs d
  · refine fun s _ => ⟨fun c => ?_, fun c => ?_⟩
    · rw [stationReset_channel]; exact channelBound_no_records (ch := (s.channel c).stationReset) rfl
    · rw [hardwareReset_channel]; exact channelBound_no_records (ch := {}) rfl

/-! ## Peers -/

theorem event_keeps_noAbsentPeer {i : Instr} {s t : State} (h : Event i s t) (timers : TrackerTimers s)
    (hs : NoAbsentPeer s) : NoAbsentPeer t := by
  have reset : ∀ u : State, (∀ g, u.entry g = {}) → NoAbsentPeer u := fun u fresh g flight => by
    rw [fresh] at flight
    simp [InFlight] at flight
  cases h with
  | changes h => exact h.keeps_noAbsentPeer timers hs
  | word l transfer h => exact h.keeps_noAbsentPeer timers hs
  | number v offline => exact (becomeAbsent_changes _ _).keeps_noAbsentPeer timers hs
  | stationReset op => exact reset _ (stationReset_entry s)
  | hardwareReset => exact reset _ (hardwareReset_entry s)
  | _ => exact hs

theorem letGo_member (s : State) (f : FrameRef) : (s.letGo f).member = s.member := (letGo_working s f).member

theorem engineStop_member (s : State) : s.engineStop.member = s.member := rfl

theorem emptyDataSlot_member (s : State) : s.emptyDataSlot.member = s.member := letGo_member s _

theorem purgeInbound_member (s : State) (p : StationNo) : (s.purgeInbound p).member = s.member := by
  have guard : ∀ (b : Bool) {u v w : State}, v.member = u.member → u.member = w.member →
      (if b then v else u).member = w.member := fun b u v w h k => by
    cases b
    · exact k
    · exact h.trans k
  unfold State.purgeInbound
  dsimp only
  exact guard _ (letGo_member _ _) (guard _ (emptyDataSlot_member _) (guard _ (engineStop_member s) rfl))

theorem peerLost_member (s : State) (p : StationNo) : (s.peerLost p).member = s.member :=
  (purgeInbound_member _ p).trans (purgeTracker_working s p).member

/-- A station that becomes ABSENT is ABSENT, and no other changes. -/
theorem isPresent_becomeAbsent (s : State) (n m : StationNo) :
    (s.becomeAbsent n).isPresent m = true ↔ s.isPresent m = true ∧ m ≠ n := by
  unfold State.becomeAbsent
  split
  · rw [isPresent_congr (congrArg Membership.roster (peerLost_member _ n))]
    refine ⟨isPresent_setRoster_lost s n m _, fun ⟨present, other⟩ => ?_⟩
    rw [State.isPresent, rosterEntry_setRoster, if_neg fun h => other h.1]
    exact present
  · next absent =>
    refine ⟨fun present => ⟨present, fun e => absent (e ▸ present)⟩, fun h => h.1⟩

theorem event_keeps_ownAbsent {i : Instr} {s t : State} (h : Event i s t) (hs : OwnAbsent s) : OwnAbsent t := by
  have reset : ∀ u : State, u.member.roster = Vector.replicate 31 {} → OwnAbsent u := fun u roster =>
    ⟨isPresent_of_empty_roster roster _, fun _ n => isPresent_of_empty_roster roster n⟩
  cases h with
  | changes h => exact h.keeps_ownAbsent hs
  | word l transfer h => exact h.keeps_ownAbsent hs
  | number v offline =>
    set n : StationNo := v.extractLsb' 0 5 with hn
    set u : State := { s with member := { s.member with number := n } } with hu
    have same := (becomeAbsent_changes u n).settings
    have shrink : ∀ m, s.isPresent m = false → (u.becomeAbsent n).isPresent m = false := fun m absent => by
      by_contra k
      have there : s.isPresent m = true := ((isPresent_becomeAbsent u n m).mp (by simpa using k)).1
      rw [absent] at there
      cases there
    refine ⟨?_, fun low m => shrink m (hs.2 (same.resetLow ▸ low) m)⟩
    have own : (u.becomeAbsent n).member.number = n := same.number
    change (u.becomeAbsent n).isPresent (u.becomeAbsent n).member.number = false
    rw [own]
    by_contra k
    exact ((isPresent_becomeAbsent u n n).mp (by simpa using k)).2 rfl
  | stationReset op => exact reset _ rfl
  | hardwareReset => exact reset _ rfl
  | release straps _ low => exact ⟨hs.2 low straps, fun high => by cases high⟩
  | _ => exact hs

/-- Settles O57: the purge of a peer leaves none of its requests in flight, and no write makes the own number PRESENT. -/
theorem stepKeepsNoAbsentPeer : Obligations.StepKeepsNoAbsentPeer := by
  refine ⟨fun s t timers hs h => ?_, fun s t hs h => ?_⟩
  · refine (step_keeps (P := fun u => TrackerTimers u ∧ NoAbsentPeer u) (fun _ _ hs => hs) ?_ ?_ ⟨timers, hs⟩ h).2
    · exact fun _ _ c hs => ⟨c.keeps_trackerTimers hs.1, c.keeps_noAbsentPeer hs.1 hs.2⟩
    · exact fun _ _ _ e hs => ⟨event_keeps_trackerTimers e hs.1, event_keeps_noAbsentPeer e hs.1 hs.2⟩
  · exact step_keeps (P := OwnAbsent) (fun _ _ hs => hs) (fun _ _ => Changes.keeps_ownAbsent)
      (fun _ _ _ => event_keeps_ownAbsent) hs h

/-! ## Ranges -/

theorem event_keeps_withinCapacity {i : Instr} {s t : State} (h : Event i s t) (hs : WithinCapacity s) :
    WithinCapacity t := by
  have reset : ∀ u : State, u.holdDepth = 0 → u.inbound.queue = [] → u.inbound.responses = [] → u.notices.queue = [] →
      u.rx.buffer = [] → WithinCapacity u := fun u hold queue responses notices buffer => by
    simp [WithinCapacity, hold, queue, responses, notices, buffer]
  cases h with
  | changes h => exact h.keeps_withinCapacity hs
  | word l transfer h => exact h.keeps_withinCapacity hs
  | number v offline => exact (becomeAbsent_changes _ _).keeps_withinCapacity hs
  | stationReset op => exact reset _ rfl rfl rfl rfl rfl
  | hardwareReset => exact reset _ rfl rfl rfl rfl rfl
  | _ => exact hs

/-- A field whose low two bits the map does not name is a multiple of 4 (R185). -/
theorem clearLow2_mod {n : Nat} (x : BitVec n) : (clearLow2 x).toNat % 4 = 0 := by
  rw [clearLow2, BitVec.toNat_shiftLeft, Nat.shiftLeft_eq]
  by_cases small : n < 2
  · have zero : (x >>> 2).toNat = 0 := by
      rw [BitVec.toNat_ushiftRight, Nat.shiftRight_eq_div_pow]
      exact Nat.div_eq_of_lt (lt_of_lt_of_le x.isLt (Nat.pow_le_pow_right (by decide) small.le))
    simp [zero]
  · obtain ⟨k, rfl⟩ := Nat.exists_eq_add_of_le (Nat.le_of_not_lt small)
    rw [Nat.pow_add, Nat.mod_mod_of_dvd _ ⟨2 ^ k, rfl⟩]
    exact Nat.mul_mod_left _ _

theorem writeWord_aligned {x : Window} (h : WindowAligned x) (w : Fin 4) (v : Word) : WindowAligned (x.writeWord w v) := by
  obtain ⟨base, size, localBase⟩ := h
  match w with
  | 0 => exact ⟨clearLow2_mod _, size, localBase⟩
  | 1 => exact ⟨base, clearLow2_mod _, localBase⟩
  | 2 => exact ⟨base, size, clearLow2_mod _⟩
  | 3 => exact ⟨base, size, localBase⟩

theorem event_keeps_windowsAligned {i : Instr} {s t : State} (h : Event i s t) (hs : WindowsAligned s) :
    WindowsAligned t := by
  cases h with
  | changes h => exact h.keeps_windowsAligned hs
  | word l transfer h => exact h.keeps_windowsAligned hs
  | number v offline => exact (becomeAbsent_changes _ _).keeps_windowsAligned hs
  | window n w v offline =>
    intro m
    rw [vector_get_set]
    split
    · exact writeWord_aligned (hs n) w v
    · exact hs m
  | hardwareReset =>
    intro m
    simp [State.hardwareReset, State.reset, WindowAligned, Vector.get_eq_getElem]
  | _ => exact hs

theorem event_keeps_flagBits {i : Instr} {s t : State} (h : Event i s t) (hs : FlagBits s) : FlagBits t := by
  cases h with
  | changes h => exact h.keeps_flagBits hs
  | word l transfer h => exact h.keeps_flagBits hs
  | number v offline => exact (becomeAbsent_changes _ _).keeps_flagBits hs
  | enables v => exact ⟨hs.1, by simp [State.writeEnables, BitVec.and_assoc]⟩
  | stationReset op => exact ⟨BitVec.zero_and, hs.2⟩
  | hardwareReset => exact ⟨BitVec.zero_and, BitVec.zero_and⟩
  | _ => exact hs

theorem event_keeps_garbleBound {i : Instr} {s t : State} (h : Event i s t) (hs : GarbleBound s) : GarbleBound t := by
  have reset : ∀ u : State, u.link.garble = 0 → GarbleBound u := fun u zero =>
    ⟨by simp [zero], fun full => by rw [zero] at full; cases full⟩
  cases h with
  | changes h => exact h.keeps_garbleBound hs
  | word l transfer h => exact h.keeps_garbleBound hs
  | number v offline => exact (becomeAbsent_changes _ _).keeps_garbleBound hs
  | stationReset op => exact reset _ rfl
  | hardwareReset => exact reset _ rfl
  | _ => exact hs

/-- Settles O59: each write keeps each range. -/
theorem stepKeepsRanges : Obligations.StepKeepsRanges := by
  refine ⟨fun s t hs h => ?_, fun s t hs h => ?_, fun s t hs h => ?_, fun s t hs h => ?_⟩
  · exact step_keeps (P := WithinCapacity) (fun _ _ hs => hs) (fun _ _ => Changes.keeps_withinCapacity)
      (fun _ _ _ => event_keeps_withinCapacity) hs h
  · exact step_keeps (P := WindowsAligned) (fun _ _ hs => hs) (fun _ _ => Changes.keeps_windowsAligned)
      (fun _ _ _ => event_keeps_windowsAligned) hs h
  · exact step_keeps (P := FlagBits) (fun _ _ hs => hs) (fun _ _ => Changes.keeps_flagBits)
      (fun _ _ _ => event_keeps_flagBits) hs h
  · exact step_keeps (P := GarbleBound) (fun _ _ hs => hs) (fun _ _ => Changes.keeps_garbleBound)
      (fun _ _ _ => event_keeps_garbleBound) hs h

/-! ## What is locked (R186) -/

/-- Settles O60: no chain of writes changes a setting, and the writes that do are the host's own, each under its condition. -/
theorem configurationIsLocked : Obligations.ConfigurationIsLocked := by
  refine ⟨fun i s t high notReset h => ?_, fun i s t h => ?_⟩
  · have kept : ∀ u : State, SameSettings s u → (s.member.state ≠ .offline →
        u.member.number = s.member.number ∧ u.member.tResp = s.member.tResp ∧ u.member.tHb = s.member.tHb ∧
          u.inbound.windows = s.inbound.windows) ∧
        (∀ c : ChannelNo, (s.channel c).state ≠ .off → (u.channel c).desc = (s.channel c).desc) ∧
        ((∀ v : Word, i ≠ .evtEnableWrite v) → u.host.enables = s.host.enables) := fun u same =>
      ⟨fun _ => ⟨same.number, same.tResp, same.tHb, same.windows⟩, fun c _ => same.desc c, fun _ => same.enables⟩
    cases exec_event h with
    | changes h => exact kept t h.settings
    | word l transfer h =>
      have same := h.settings
      exact ⟨fun _ => ⟨same.number, same.tResp, same.tHb, same.windows⟩, fun c _ => same.desc c, fun _ => same.enables⟩
    | number v _ offline =>
      have same := (becomeAbsent_changes { s with member := { s.member with number := v.extractLsb' 0 5 } }
        (v.extractLsb' 0 5)).settings
      exact ⟨fun joined => absurd offline joined, fun c _ => same.desc c, fun _ => same.enables⟩
    | timing v _ r x offline => exact ⟨fun joined => absurd offline joined, fun c _ => rfl, fun _ => rfl⟩
    | window n w v _ offline => exact ⟨fun joined => absurd offline joined, fun c _ => rfl, fun _ => rfl⟩
    | descriptor c w v _ off =>
      refine ⟨fun _ => ⟨rfl, rfl, rfl, rfl⟩, fun d held => ?_, fun _ => rfl⟩
      rw [channel_modifyChannel, if_neg (by rintro rfl; exact held off)]
    | enables v => exact ⟨fun _ => ⟨rfl, rfl, rfl, rfl⟩, fun _ _ => rfl, fun other => absurd rfl (other v)⟩
    | stationReset op =>
      exact ⟨fun _ => ⟨rfl, rfl, rfl, rfl⟩, fun c _ => by rw [stationReset_channel]; rfl, fun _ => rfl⟩
    | hardwareReset => exact absurd rfl notReset
    | release straps _ low => rw [high] at low; cases low
  · cases exec_event h with
    | changes h => exact ⟨h.settings.pending, fun _ => h.settings.ramWrites⟩
    | word l transfer h =>
      refine ⟨h.settings.pending, fun other => ?_⟩
      obtain ⟨w, rfl | rfl⟩ := transfer
      · exact absurd rfl (other w).1
      · exact absurd rfl (other w).2
    | number v _ offline =>
      have same := (becomeAbsent_changes { s with member := { s.member with number := v.extractLsb' 0 5 } }
        (v.extractLsb' 0 5)).settings
      exact ⟨same.pending, fun _ => same.ramWrites⟩
    | _ => exact ⟨rfl, fun _ => rfl⟩

/-! ## Completion, settling, reset -/

/-- Settles O3: a stop is answered only to terms that are no event of their row. -/
theorem everyCommandCompletes : Obligations.EveryCommandCompletes := by
  intro i s formed
  cases i with
  | unknownCommandCode code op =>
    have unknown : knownCommandCode code = false := by simpa [Instr.wellFormed] using formed
    refine ⟨if s.host.resetLow then s else s.refuse code op .badOperand, ?_⟩
    calc exec (.unknownCommandCode code op) s
        = execUnknownCommandCode code op s := rfl
      _ = s.takes fun s => s.refuse code op .badOperand := by rw [execUnknownCommandCode, unknown]; rfl
  | otherRegisterWrite a v =>
    have other : writableRegister a = false := by simpa [Instr.wellFormed] using formed
    refine ⟨s, ?_⟩
    calc exec (.otherRegisterWrite a v) s
        = execOtherRegisterWrite a v s := rfl
      _ = .next s := by simp [execOtherRegisterWrite, other]
  | burstEnd w =>
    change ∃ t, execBurstEnd w s = .next t
    unfold execBurstEnd
    split <;> exact ⟨_, rfl⟩
  | busError =>
    change ∃ t, execBusError s = .next t
    unfold execBusError
    split <;> exact ⟨_, rfl⟩
  | wordTransferEnd w =>
    change ∃ t, execWordTransferEnd w s = .next t
    unfold execWordTransferEnd
    split <;> exact ⟨_, rfl⟩
  | _ => exact ⟨_, rfl⟩

theorem settleN_same (n : Nat) (s : State) : SameConfiguration s (State.settleN n s) := by
  induction n generalizing s with
  | zero => exact same_trans (same_trans (settleOnce_same s) (askOwners_same _)) (settleTags_same _)
  | succ n ih =>
    have asked := same_trans (settleOnce_same s) (askOwners_same _)
    unfold State.settleN
    dsimp only
    split
    · exact same_trans (same_trans (settleOnce_same s) (dispatchHead_same _)) (ih _)
    · split
      · exact same_trans (same_trans asked (dispatchHead_same _)) (ih _)
      · exact same_trans asked (settleTags_same _)

theorem settleFrom_same (s : State) (old : List (ChannelNo × BurstRequest)) : SameConfiguration s (s.settleFrom old) :=
  same_trans (settleN_same _ s) (orderFetches_same _ old)

/-- Settles O4. -/
theorem settleKeepsConfiguration : Obligations.SettleKeepsConfiguration := fun s =>
  ⟨settleFrom_same s _, settleFrom_same s⟩

/-- Settles O55: in reset every table and queue is empty, every entry FREE and every channel OFF. -/
theorem resetMeetsTheInvariants : Obligations.ResetMeetsTheInvariants := by
  have entry : ∀ g, State.reset.entry g = {} := fun g => hardwareReset_entry State.reset g
  have channel : ∀ c, State.reset.channel c = {} := fun c => hardwareReset_channel State.reset c
  have present : ∀ n, State.reset.isPresent n = false := isPresent_of_empty_roster rfl
  refine ⟨fun g => ?_, fun g flight => ?_, fun c g u _ queued => ?_, fun c => ?_, ?_, ⟨present _, fun _ => present⟩,
    fun n => ?_, ⟨BitVec.zero_and, BitVec.zero_and⟩, ⟨Nat.zero_le _, fun full => by cases full⟩, fun c => ?_⟩
  · rw [entry]; exact entryTimers_fresh
  · rw [entry] at flight; simp [InFlight] at flight
  · rw [entry] at queued; cases queued
  · rw [channel]; exact channelBound_no_records (ch := {}) rfl
  · simp [WithinCapacity, State.reset]
  · simp [State.reset, WindowAligned, Vector.get_eq_getElem]
  · rw [channel]
    refine ⟨⟨rfl, rfl⟩, List.nodup_nil, fun g => ?_⟩
    rw [entry]
    simp [outstandingTags]

end Sys2Proof.Proofs
end


section
/-!
One step and the commands written to COMMAND: the shell of a meaning, the tests a command makes as the rules state them, and
the next state of each.
-/

set_option Elab.async false

namespace Sys2Proof.Proofs

open Sys2Proof Sys2Proof.Machine Sys2Proof.Safety Sys2Proof.Laws

/-! ## The shell -/

/-- With RESET_N high an event is its meaning. -/
theorem exec_takes {i : Instr} {s : State} (f : State → State) (shell : exec i s = s.takes f)
    (high : s.host.resetLow = false) : exec i s = .next (f s) := shell.trans (takes_up high f)

/-- A channel command with an operand 0-5 is its meaning for that channel. -/
theorem exec_command {i : Instr} {s : State} {code : BitVec 8} {c : ChannelNo} (f : ChannelNo → State → State)
    (shell : exec i s = s.takes fun s => s.channelCommand code (BitVec.ofNat 3 c.val) f)
    (high : s.host.resetLow = false) : exec i s = .next (f c s) := by
  rw [exec_takes _ shell high, channelCommand_channel]

/-- A channel command with the operand 6 or 7 is refused. -/
theorem exec_command_refused {i : Instr} {s : State} {code : BitVec 8} {op : BitVec 3} (f : ChannelNo → State → State)
    (shell : exec i s = s.takes fun s => s.channelCommand code op f) (high : s.host.resetLow = false) (none : 6 ≤ op.toNat) :
    exec i s = .next (refusedCommand s code op .badOperand) := by
  rw [exec_takes _ shell high, channelCommand_none s code none]
  rfl

/-! ## One step -/

/-- Settles O1. -/
theorem stepTakesTheFront : Obligations.StepTakesTheFront := fun _ _ _ => rfl

theorem entry_tick (s : State) (high : s.host.resetLow = false) (g : Tag) : s.tick.entry g = (s.entry g).tick := by
  rw [State.tick, if_neg (by simp [high])]
  exact mapTable_get _ _ g

theorem channel_tick (s : State) (high : s.host.resetLow = false) (c : ChannelNo) : s.tick.channel c = (s.channel c).tick := by
  rw [State.tick, if_neg (by simp [high])]
  exact mapTable_get _ _ c

theorem rosterEntry_tick (s : State) (high : s.host.resetLow = false) (n : StationNo) :
    s.tick.rosterEntry n = (s.rosterEntry n).tick := by
  rw [State.tick, if_neg (by simp [high])]
  unfold State.rosterEntry
  split
  · exact mapTable_get _ _ _
  · rfl

theorem tickIdle_eq (s : State) : s.tickIdle = { s.link with
    idle := if s.link.unit = .waiting ∧ s.rx.state ≠ .framing then s.link.idle + 1 else s.link.idle } := by
  unfold State.tickIdle State.mediumIdle
  simp only [Bool.and_eq_true, decide_eq_true_eq]
  split <;> rfl

/-- Settles O2: a microsecond is one tick of every table. -/
theorem emptyQueueIsOneMicrosecond : Obligations.EmptyQueueIsOneMicrosecond := by
  intro s empty
  have shell : step s = .next s.tick := by rw [step, empty]
  refine ⟨fun low => ?_, fun high => ⟨s.tick, shell, ?_⟩⟩
  · rw [shell, State.tick, if_pos low]
  · have eq : s.tick = { s with
        channels := mapTable Channel.tick s.channels
        tracker := { s.tracker with entries := mapTable Entry.tick s.tracker.entries }
        notices := { s.notices with slot := s.notices.slot.tick }, member := s.member.tick, link := s.tickIdle } := by
      rw [State.tick, if_neg (by simp [high])]
    refine ⟨fun g => entry_tick s high g, ?_, fun c => ?_, ?_, fun n => ?_, ?_, ?_, ?_, ?_, ?_, ?_, ?_, ?_, ?_⟩
    · rw [eq]
    · rw [channel_tick s high c, Channel.tick]
      congr 1
      · exact List.map_congr_left fun r _ => by unfold SegRecord.tick; cases r.state <;> rfl
      · exact congrArg (Option.map · _) (funext fun ⟨phase, _, _⟩ => by cases phase <;> rfl)
    · rw [eq]
      refine congrArg (fun x => ({ s.notices with slot := x } : NoticeUnit)) ?_
      obtain ⟨peer, code, state, result, reason, attempts, busy⟩ := s.notices.slot
      rcases state with _ | phase | _
      · rfl
      · cases phase <;> rfl
      · rfl
    · rw [rosterEntry_tick s high n, RosterEntry.tick]
      refine congrArg (fun p => ({ s.rosterEntry n with presence := p } : RosterEntry)) ?_
      cases (s.rosterEntry n).presence <;> rfl
    · rw [eq]
      refine congrArg (fun h => ({ s.member.tick with heartbeat := h } : Membership)) ?_
      cases s.member.heartbeat <;> rfl
    · rw [eq, tickIdle_eq]
    all_goals rw [eq]
    exact empty

/-! ## JOIN (R66, R108) -/

theorem valid_iff (w : Window) : w.valid = true ↔
    (w.enable = true → 4 ≤ w.size.toNat ∧ w.base.toNat + w.size.toNat ≤ 0x1000000 ∧ w.access ≠ 3) := by
  cases enabled : w.enable
  · simp [Window.valid, enabled]
  · simp only [Window.valid, enabled, Bool.not_true, Bool.false_or, Bool.and_eq_true, decide_eq_true_eq, true_imp_iff, and_assoc]
    rfl

/-- Two windows that R66 tests share no address exactly if none is held by both. -/
theorem disjoint_iff {a b : Window} (ha : a.valid = true) (hb : b.valid = true) :
    a.disjoint b = true ↔ ∀ x : Nat, ¬ (a.holds x = true ∧ b.holds x = true) := by
  rw [valid_iff] at ha hb
  simp only [holds_iff]
  cases ea : a.enable <;> cases eb : b.enable <;>
    simp only [Window.disjoint, ea, eb, Bool.not_true, Bool.not_false, Bool.true_or, Bool.false_or, Bool.or_true,
      Bool.or_eq_true, decide_eq_true_eq, true_and, false_and, and_false, Bool.false_eq_true, not_false_iff, forall_const]
  obtain ⟨sizeA, -⟩ := ha ea
  obtain ⟨sizeB, -⟩ := hb eb
  constructor
  · rintro apart x ⟨⟨_, _⟩, _, _⟩
    omega
  · intro none
    have := none (max a.base.toNat b.base.toNat)
    omega

theorem pairwiseDisjoint_iff (ws : List Window) :
    pairwiseDisjoint ws = true ↔ ws.Pairwise fun a b => a.disjoint b = true := by
  induction ws with
  | nil => simp [pairwiseDisjoint]
  | cons w ws ih => simp [pairwiseDisjoint, ih]

theorem windowsValid_iff (s : State) : windowsValid s.inbound.windows.toList = true ↔ WindowTests s := by
  have get : ∀ n : Fin 8, s.inbound.windows.toList[n.val]'(by simp) = window s n := fun n => by
    simp [window, Vector.get_eq_getElem]
  have all : s.inbound.windows.toList.all Window.valid = true ↔ ∀ n : Fin 8, (window s n).valid = true := by
    rw [List.all_eq_true]
    refine ⟨fun h n => h _ (get n ▸ List.getElem_mem _), fun h w hw => ?_⟩
    obtain ⟨i, hi, rfl⟩ := List.mem_iff_getElem.mp hw
    have := h ⟨i, by simpa using hi⟩
    rwa [← get] at this
  rw [windowsValid, Bool.and_eq_true, all, pairwiseDisjoint_iff, WindowTests]
  simp only [valid_iff]
  refine and_congr_right fun valid => ?_
  simp only [← valid_iff] at valid
  rw [List.pairwise_iff_getElem]
  constructor
  · intro apart n m x hn hm
    have lt : ∀ i j : Fin 8, i < j → (window s i).holds x = true → ¬ (window s j).holds x = true := fun i j h hi hj => by
      have := apart i.val j.val (by simp) (by simp) h
      rw [get i, get j] at this
      exact (disjoint_iff (valid i) (valid j)).mp this x ⟨hi, hj⟩
    rcases lt_trichotomy n m with h | h | h
    · exact absurd hm (lt n m h hn)
    · exact h
    · exact absurd hn (lt m n h hm)
  · intro one i j hi hj h
    have hi' : i < 8 := by simpa using hi
    have hj' : j < 8 := by simpa using hj
    rw [get ⟨i, hi'⟩, get ⟨j, hj'⟩, disjoint_iff (valid _) (valid _)]
    rintro x ⟨hx, hy⟩
    have := Fin.val_eq_of_eq (one ⟨i, hi'⟩ ⟨j, hj'⟩ x hx hy)
    exact h.ne this

theorem configValid_iff (s : State) : s.configValid = true ↔ JoinTests s := by
  simp only [State.configValid, JoinTests, Bool.and_eq_true, windowsValid_iff, ne_eq, decide_not, Bool.not_eq_true',
    decide_eq_false_iff_not, and_assoc]

/-- Settles O6. -/
theorem joinByItsTests : Obligations.JoinByItsTests := by
  intro op s high offline
  have shell := exec_takes (i := .join op) (State.join op) rfl high
  refine ⟨fun tests => ?_, fun tests => ?_⟩
  · have valid := (configValid_iff s).mpr tests
    rw [shell, State.join, if_neg (by simp [offline]), if_pos valid]
    rfl
  · have invalid := mt (configValid_iff s).mp tests
    rw [shell, State.join, if_neg (by simp [offline]), if_neg invalid]
    rfl

/-! ## STATION_RESET (R198) -/

/-- Settles O9. -/
theorem stationResetKeepsItsList : Obligations.StationResetKeepsItsList := fun op s high =>
  ⟨s.stationReset, exec_stationReset high op, fun c => stationReset_channel s c, rfl, rfl, rfl, rfl, rfl, rfl, rfl, rfl, rfl,
    rfl, rfl, rfl, rfl⟩

/-! ## HOLD_UP, HOLD_DOWN, SEND_NOTICE, POP_NOTICE -/

/-- Settles O11. -/
theorem holdAndNoticeCommandsTaken : Obligations.HoldAndNoticeCommandsTaken := by
  refine ⟨fun op s high => ⟨fun room => ?_, fun deep => ?_, fun one => ?_⟩, fun op s high online quiet peer other => ?_,
    fun op n rest s high waits => ?_⟩
  · refine ⟨State.withdrawWaiting { s with holdDepth := s.holdDepth + 1 }, ?_, rfl, fun c => channel_mapChannels _ c _⟩
    rw [exec_takes (State.holdUp op) rfl high, State.holdUp, if_pos (show s.holdDepth < Config.holdLimit from room)]
  · rw [exec_takes (State.holdDown op) rfl high, State.holdDown, if_neg (by omega), if_neg (by omega)]
  · rw [exec_takes (State.holdDown op) rfl high, State.holdDown, if_neg (by omega), if_pos one]
  · rw [exec_takes (State.sendNotice op) rfl high, State.sendNotice]
    rw [if_neg (by simp [online, quiet]),
      if_neg (by rw [Bool.or_eq_true, decide_eq_true_eq, decide_eq_true_eq]; exact not_or.mpr ⟨peer, other⟩)]
    rfl
  · rw [exec_takes (State.popNotice op) rfl high, State.popNotice]
    split
    · next empty => rw [empty] at waits; cases waits
    · next queue => rw [queue] at waits; cases waits; rfl

/-! ## Refused commands -/

theorem knownCommandCode_eq_false {code : BitVec 8}
    (h : code = 0 ∨ (9 ≤ code.toNat ∧ code.toNat ≤ 0x0F) ∨ 0x16 ≤ code.toNat) : knownCommandCode code = false := by
  rcases h with rfl | h
  · rfl
  · simp [knownCommandCode]
    omega

/-- Settles O13. -/
theorem commandsRefused : Obligations.CommandsRefused := by
  refine ⟨fun op s high => ⟨fun joined => ?_, fun state => ?_, fun full => ?_, fun zero => ?_, fun busy => ?_,
    fun online quiet peer => ?_, fun empty => ?_⟩, fun op s high none => ?_, fun code op s high unknown => ?_⟩
  · rw [exec_takes (State.join op) rfl high, State.join, if_pos joined]
    rfl
  · rw [exec_takes (State.leave op) rfl high, State.leave]
    rcases state with h | h | h <;> rw [h] <;> rfl
  · rw [exec_takes (State.holdUp op) rfl high, State.holdUp, if_neg (by simp [Config.holdLimit]; omega)]
    rfl
  · rw [exec_takes (State.holdDown op) rfl high, State.holdDown, if_pos zero]
    rfl
  · rw [exec_takes (State.sendNotice op) rfl high, State.sendNotice, if_pos (by simpa using busy)]
    rfl
  · rw [exec_takes (State.sendNotice op) rfl high, State.sendNotice, if_neg (by simp [online, quiet]),
      if_pos (by simpa using peer)]
    rfl
  · rw [exec_takes (State.popNotice op) rfl high, State.popNotice, empty]
    rfl
  · exact ⟨exec_command_refused _ rfl high none, exec_command_refused _ rfl high none, exec_command_refused _ rfl high none,
      exec_command_refused _ rfl high none, exec_command_refused _ rfl high none, exec_command_refused _ rfl high none⟩
  · have shell : exec (.unknownCommandCode code op) s = s.takes fun s => s.refuse code op .badOperand := by
      calc exec (.unknownCommandCode code op) s
          = execUnknownCommandCode code op s := rfl
        _ = _ := by rw [execUnknownCommandCode, if_neg (by simp [knownCommandCode_eq_false unknown])]
    rw [exec_takes _ shell high]
    rfl

/-! ## CH_ENABLE (R2, R3) -/

theorem descriptor_valid_iff (d : Descriptor) (own : StationNo) : d.valid own = true ↔ DescriptorTests d own := by
  have length : d.length.toNat ≠ 0 ↔ d.length ≠ 0 := (BitVec.toNat_eq (x := d.length) (y := 0)).symm.not
  have remote : (d.remoteMode = .fixed ∨ d.remote.toNat + d.length.toNat ≤ Config.remoteSpace) ↔
      (d.remoteMode = .increment → d.remote.toNat + d.length.toNat ≤ 0x1000000) := by
    cases d.remoteMode <;> simp [Config.remoteSpace]
  cases direction : d.direction <;>
    simp only [Descriptor.valid, DescriptorTests, direction, Bool.and_eq_true, Bool.or_eq_true, decide_eq_true_eq, length,
      remote, and_assoc, ne_eq, decide_not, Bool.not_eq_true', decide_eq_false_iff_not, reduceCtorEq, false_imp_iff,
      true_imp_iff, true_and, and_true]

/-- Settles O14. -/
theorem chEnableValidatesAndArms : Obligations.ChEnableValidatesAndArms := by
  intro c s high
  dsimp only
  have shell := exec_command (i := .chEnable (BitVec.ofNat 3 c.val)) (State.chEnable _) rfl high
  refine ⟨fun off tests => ?_, fun off tests => ?_, fun on => ?_⟩
  · rw [shell, State.chEnable, if_neg (by simp [off]), if_pos ((descriptor_valid_iff _ _).mpr tests)]
    rfl
  · rw [shell, State.chEnable, if_neg (by simp [off]), if_neg (mt (descriptor_valid_iff _ _).mp tests)]
    rfl
  · rw [shell, State.chEnable, if_pos on]
    rfl

/-! ## CH_START and CHANNEL_START (R5 to R7) -/

theorem startDue_iff (s : State) (c : ChannelNo) : s.startDue c = true ↔
    (s.channel c).state = .armed ∧ (s.channel c).latch = true ∧
      ¬ (s.member.state ≠ .online ∨ s.holdDepth ≠ 0 ∨ (s.channel c).pause = true) := by
  simp only [State.startDue, Bool.and_eq_true, decide_eq_true_eq, Bool.not_eq_true', not_or, ne_eq, not_not,
    Bool.not_eq_true, and_assoc]

theorem startAndSettle_of_due {s : State} {c : ChannelNo} (due : s.startDue c = true) :
    s.startAndSettle c = (s.setChannel c (s.channel c).started).settle := by
  rw [State.startAndSettle, if_pos due, State.startIfDue, if_pos due]
  rfl

theorem startAndSettle_of_not_due {s : State} {c : ChannelNo} (due : ¬ s.startDue c = true) : s.startAndSettle c = s := by
  rw [State.startAndSettle, if_neg due]

/-- The overrun record of a lost trigger. -/
theorem trigger_lost {s : State} {c : ChannelNo}
    (taken : (s.channel c).state = .armed ∧ (s.channel c).latch = true ∨ (s.channel c).state = .running ∨
      (s.channel c).state = .paused ∨ (s.channel c).state = .notifying) :
    s.trigger c = (s.modifyChannel c fun ch => { ch with overrun := true }).raise .overrun := by
  unfold State.trigger
  rcases taken with ⟨h, latched⟩ | h | h | h
  · simp only [h, latched, if_true]
  · simp only [h]
  · simp only [h]
  · simp only [h]

theorem trigger_latched {s : State} {c : ChannelNo} (armed : (s.channel c).state = .armed)
    (clear : (s.channel c).latch = false) : s.trigger c = s.modifyChannel c fun ch => { ch with latch := true } := by
  unfold State.trigger
  simp [armed, clear]

/-- Settles O15. -/
theorem chStartTriggersAndStarts : Obligations.ChStartTriggersAndStarts := by
  intro c s high
  dsimp only
  have shell := exec_command (i := .chStart (BitVec.ofNat 3 c.val)) (State.chStart _) rfl high
  have start := exec_takes (i := .channelStart c) (fun s => s.startAndSettle c) rfl high
  have notDue : ∀ f : Channel → Channel, (f (s.channel c)).state = (s.channel c).state →
      (f (s.channel c)).pause = (s.channel c).pause → ((s.channel c).state ≠ .armed ∨
        (s.member.state ≠ .online ∨ s.holdDepth ≠ 0 ∨ (s.channel c).pause = true)) →
      ¬ (s.modifyChannel c f).startDue c = true := by
    intro f state pause h
    rw [startDue_iff, channel_modifyChannel_self, state, pause, modifyChannel_member, modifyChannel_holdDepth]
    tauto
  have lost : (s.channel c).state ≠ .armed ∨ (s.member.state ≠ .online ∨ s.holdDepth ≠ 0 ∨ (s.channel c).pause = true) →
      ¬ ((s.modifyChannel c fun ch => { ch with overrun := true }).raise .overrun).startDue c = true :=
    notDue (fun ch => { ch with overrun := true }) rfl rfl
  refine ⟨fun armed clear held => ?_, fun armed clear free => ?_, fun armed latched held => ?_, fun on => ?_, fun off => ?_,
    fun armed latched free => ?_, fun idle => ?_⟩
  · rw [shell, State.chStart, if_neg (by simp [armed]), trigger_latched armed clear,
      startAndSettle_of_not_due (notDue (fun ch => { ch with latch := true }) rfl rfl (.inr held))]
    rfl
  · have due : (s.modifyChannel c fun ch => { ch with latch := true }).startDue c = true := by
      rw [startDue_iff, channel_modifyChannel_self]
      exact ⟨armed, rfl, free⟩
    rw [shell, State.chStart, if_neg (by simp [armed]), trigger_latched armed clear, startAndSettle_of_due due,
      channel_modifyChannel_self, State.modifyChannel, setChannel_setChannel]
    rfl
  · rw [shell, State.chStart, if_neg (by simp [armed]), trigger_lost (.inl ⟨armed, latched⟩),
      startAndSettle_of_not_due (lost (.inr held))]
    rfl
  · have notArmed : (s.channel c).state ≠ .armed := by rcases on with h | h | h <;> simp [h]
    rw [shell, State.chStart, if_neg (by rcases on with h | h | h <;> simp [h]), trigger_lost (.inr on),
      startAndSettle_of_not_due (lost (.inl notArmed))]
    rfl
  · rw [shell, State.chStart, if_pos off]
    rfl
  · rw [start, startAndSettle_of_due ((startDue_iff s c).mpr ⟨armed, latched, free⟩)]
    rfl
  · rw [start, startAndSettle_of_not_due]
    rw [startDue_iff]
    rintro ⟨armed, latched, free⟩
    rcases idle with h | h | h
    · exact h armed
    · rw [latched] at h; cases h
    · exact free h

/-! ## CH_PAUSE and CH_RESUME (R8, R9) -/

theorem chPause_of_on {s : State} {c : ChannelNo} (op : BitVec 3) (on : (s.channel c).state ≠ .off) :
    State.chPause op c s = s.setChannel c (s.channel c).paused := by
  rw [State.chPause, if_neg on]
  rfl

/-- Settles O16. -/
theorem pauseAndResume : Obligations.PauseAndResume := by
  intro c s high
  dsimp only
  have pause := exec_command (i := .chPause (BitVec.ofNat 3 c.val)) (State.chPause _) rfl high
  have resume := exec_command (i := .chResume (BitVec.ofNat 3 c.val)) (State.chResume _) rfl high
  refine ⟨fun running => ?_, fun other => ?_, fun off => ?_, fun paused => ?_, fun other => ?_, fun running => ?_, fun off => ?_⟩
  · rw [pause, chPause_of_on _ (by simp [running]), Channel.paused, if_pos running]
  · rw [pause, chPause_of_on _ (by rcases other with h | h | h <;> simp [h]), Channel.paused,
      if_neg (by rcases other with h | h | h <;> simp [h])]
  · rw [pause, State.chPause, if_pos off]
    rfl
  · rw [resume, State.chResume, paused]
    simp only [State.modifyChannel, Channel.resumed, paused, if_true]
  · rw [resume, State.chResume]
    rcases other with h | h <;> simp [h, State.modifyChannel, Channel.resumed]
  · rw [resume, State.chResume, running]
  · rw [resume, State.chResume, off]
    rfl

end Sys2Proof.Proofs
end


section
/-!
The register window: which command a write is, what a held write reads back as, what a locked one records; RESET_N and the
words left in transfer.
-/

set_option Elab.async false

namespace Sys2Proof.Proofs

open Sys2Proof Sys2Proof.Machine Sys2Proof.Safety Sys2Proof.Laws

/-! ## Locked writes (R186) -/

/-- Settles O22. -/
theorem lockedWritesAreRecorded : Obligations.LockedWritesAreRecorded := by
  intro v s high
  refine ⟨fun joined => ⟨?_, ?_, fun n w => ?_⟩, fun c w on => ?_, fun sending => ?_⟩
  · rw [exec_takes (State.writeNumber v) rfl high, State.writeNumber, if_neg joined]
    rfl
  · rw [exec_takes (State.writeTiming v) rfl high, State.writeTiming, if_neg joined]
    rfl
  · rw [exec_takes (State.writeWindow n w v) rfl high, State.writeWindow, if_neg joined]
    rfl
  · rw [exec_takes (State.writeDescriptor c w v) rfl high, State.writeDescriptor, if_neg on]
    rfl
  · rw [exec_takes (State.writeHnSend v) rfl high, State.writeHnSend, if_pos sending]
    rfl

/-! ## Which command a write is -/

theorem operand_of_word (unread : BitVec 21) (op : BitVec 3) (code : BitVec 8) :
    (unread ++ op ++ code).extractLsb' 8 3 = op := by
  refine BitVec.eq_of_getLsbD_eq fun i hi => ?_
  rw [BitVec.getLsbD_extractLsb', BitVec.getLsbD_append, if_neg (by omega), BitVec.getLsbD_append, if_pos (by omega),
    Nat.add_sub_cancel_left]
  simp [hi]

theorem code_of_word (unread : BitVec 21) (op : BitVec 3) (code : BitVec 8) :
    (unread ++ op ++ code).extractLsb' 0 8 = code := by
  refine BitVec.eq_of_getLsbD_eq fun i hi => ?_
  rw [BitVec.getLsbD_extractLsb', BitVec.getLsbD_append, if_pos (by omega), Nat.zero_add]
  simp [hi]

theorem knownCommandCode_iff (code : BitVec 8) : knownCommandCode code = true ↔
    1 ≤ code.toNat ∧ code.toNat ≤ 8 ∨ 0x10 ≤ code.toNat ∧ code.toNat ≤ 0x15 := by
  simp only [knownCommandCode, Bool.or_eq_true, Bool.and_eq_true, decide_eq_true_eq]

theorem commandOfWord_unknown {v : Word} (unknown : knownCommandCode (v.extractLsb' 0 8) = false) :
    commandOfWord v = .unknownCommandCode (v.extractLsb' 0 8) (v.extractLsb' 8 3) := by
  unfold commandOfWord
  dsimp only
  generalize v.extractLsb' 0 8 = code at unknown ⊢
  rw [← Bool.not_eq_true, knownCommandCode_iff] at unknown
  split
  case h_15 => rfl
  all_goals omega

theorem commandOfWord_wellFormed (v : Word) : (commandOfWord v).wellFormed = true := by
  cases known : knownCommandCode (v.extractLsb' 0 8) with
  | false => rw [commandOfWord_unknown known]; simp [Instr.wellFormed, known]
  | true =>
    unfold commandOfWord
    dsimp only
    generalize v.extractLsb' 0 8 = code at known ⊢
    rw [knownCommandCode_iff] at known
    split
    case h_15 =>
      simp only [imp_false] at *
      omega
    all_goals rfl

theorem registerWrite_command (v : Word) : registerWrite 0x03 v = commandOfWord v := rfl

theorem windowAddress_toNat (n : Fin 8) (w : Fin 4) : (windowAddress n w).toNat = 0x20 + 4 * n.val + w.val := by
  rw [windowAddress, BitVec.toNat_ofNat]
  omega

theorem descriptorAddress_toNat (c : ChannelNo) (w : Fin 8) : (descriptorAddress c w).toNat = 0x40 + 8 * c.val + w.val := by
  rw [descriptorAddress, BitVec.toNat_ofNat]
  omega

theorem registerWrite_window (n : Fin 8) (w : Fin 4) (v : Word) :
    registerWrite (windowAddress n w) v = .windowTableWrite n w v := by
  unfold registerWrite
  dsimp only
  rw [windowAddress_toNat, if_neg (by omega), if_neg (by omega), if_neg (by omega), if_neg (by omega), if_neg (by omega),
    if_neg (by omega), if_neg (by omega), if_pos (by omega)]
  congr 1 <;> refine Fin.ext ?_ <;> simp only [Fin.ofNat] <;> omega

theorem registerWrite_descriptor (c : ChannelNo) (w : Fin 8) (v : Word) :
    registerWrite (descriptorAddress c w) v = .descriptorWrite c w v := by
  unfold registerWrite
  dsimp only
  rw [descriptorAddress_toNat, if_neg (by omega), if_neg (by omega), if_neg (by omega), if_neg (by omega), if_neg (by omega),
    if_neg (by omega), if_neg (by omega), if_neg (by omega), if_pos (by omega)]
  congr 1 <;> refine Fin.ext ?_ <;> simp only [Fin.ofNat] <;> omega

theorem writableRegister_eq_false_iff (a : BitVec 8) : writableRegister a = false ↔
    4 * a.toNat ≠ 0x000 ∧ 4 * a.toNat ≠ 0x008 ∧ 4 * a.toNat ≠ 0x00C ∧ 4 * a.toNat ≠ 0x014 ∧ 4 * a.toNat ≠ 0x018 ∧
      4 * a.toNat ≠ 0x038 ∧ 4 * a.toNat ≠ 0x048 ∧ ¬ (0x080 ≤ 4 * a.toNat ∧ 4 * a.toNat < 0x100) ∧
      ¬ (0x100 ≤ 4 * a.toNat ∧ 4 * a.toNat < 0x1C0) := by
  simp only [writableRegister, Bool.or_eq_false_iff, Bool.and_eq_false_iff, decide_eq_false_iff_not, not_and_or, and_assoc,
    ne_eq]

theorem registerWrite_other {a : BitVec 8} (other : writableRegister a = false) (v : Word) :
    registerWrite a v = .otherRegisterWrite a v := by
  obtain ⟨h0, h1, h2, h3, h4, h5, h6, h7, h8⟩ := (writableRegister_eq_false_iff a).mp other
  unfold registerWrite
  dsimp only
  rw [if_neg h0, if_neg h1, if_neg h2, if_neg h3, if_neg h4, if_neg h5, if_neg h6, if_neg h7, if_neg h8]

theorem registerWrite_wellFormed (a : BitVec 8) (v : Word) : (registerWrite a v).wellFormed = true := by
  cases other : writableRegister a with
  | false => rw [registerWrite_other other]; simp [Instr.wellFormed, other]
  | true =>
    unfold registerWrite
    dsimp only
    split_ifs with h0 h1 h2 h3 h4 h5 h6 h7 h8
    case neg =>
      rw [(writableRegister_eq_false_iff a).mpr ⟨h0, h1, h2, h3, h4, h5, h6, h7, h8⟩] at other
      cases other
    case pos => rfl
    case pos => rfl
    case pos => exact commandOfWord_wellFormed v
    all_goals rfl

theorem irqAsserted_iff (s : State) : s.irqAsserted = true ↔
    s.host.resetLow = false ∧ ∃ b : Fin 32, s.eventFlags.getLsbD b.val = true ∧ s.host.enables.getLsbD b.val = true := by
  have bits : s.eventFlags &&& s.host.enables ≠ 0 ↔
      ∃ b : Fin 32, s.eventFlags.getLsbD b.val = true ∧ s.host.enables.getLsbD b.val = true := by
    constructor
    · intro some
      by_contra none
      refine some (BitVec.eq_of_getLsbD_eq fun i hi => ?_)
      rw [BitVec.getLsbD_and, BitVec.ofNat_eq_ofNat, BitVec.getLsbD_zero, Bool.eq_false_iff]
      exact fun h => none ⟨⟨i, hi⟩, Bool.and_eq_true_iff.mp h⟩
    · rintro ⟨b, flag, enable⟩ zero
      have clear : (s.eventFlags &&& s.host.enables).getLsbD b.val = false := by
        rw [zero, BitVec.ofNat_eq_ofNat, BitVec.getLsbD_zero]
      rw [BitVec.getLsbD_and, flag, enable] at clear
      cases clear
  simp only [State.irqAsserted, Bool.and_eq_true, Bool.not_eq_true', bne_iff_ne, bits]

/-- Settles O23. -/
theorem hostPortWrites : Obligations.HostPortWrites := by
  refine ⟨fun unread op => ?_, fun v => ⟨rfl, rfl, rfl, rfl, rfl, rfl, fun n w => registerWrite_window n w v,
    fun c w => registerWrite_descriptor c w v, fun a => ⟨registerWrite_wellFormed a v, fun other => registerWrite_other other v⟩⟩,
    fun v s high => ⟨fun quiet => ?_, exec_takes (State.clearFlags v) rfl high, exec_takes (State.writeEnables v) rfl high⟩,
    fun a v s other => ?_, irqAsserted_iff⟩
  · dsimp only
    simp only [registerWrite_command]
    refine ⟨?_, ?_, ?_, ?_, ?_, ?_, ?_, ?_, ?_, ?_, ?_, ?_, ?_, ?_, fun code unknown => ?_⟩
    case refine_15 =>
      have := commandOfWord_unknown (v := unread ++ op ++ code)
        (by rw [code_of_word]; exact knownCommandCode_eq_false unknown)
      rw [this, code_of_word, operand_of_word]
    all_goals
      unfold commandOfWord
      rw [code_of_word, operand_of_word]
      rfl
  · rw [exec_takes (State.writeHnSend v) rfl high, State.writeHnSend, if_neg (by simp [quiet])]
    rfl
  · calc exec (.otherRegisterWrite a v) s
        = execOtherRegisterWrite a v s := rfl
      _ = .next s := by rcases other with h | h <;> simp [execOtherRegisterWrite, h]

/-! ## ROSTER_CHANGE (R127) -/

theorem clearChanges_getElem? (v : Word) (n i : Nat) (es : List RosterEntry) :
    (clearChanges v n es)[i]? = es[i]?.map fun e => { e with changed := e.changed && !v.getLsbD (n + i) } := by
  induction es generalizing n i with
  | nil => rfl
  | cons e es ih =>
    cases i with
    | zero => rfl
    | succ i => simp [clearChanges, ih, Nat.add_comm, Nat.add_left_comm]

/-- Settles O24. -/
theorem rosterChangeWriteClearsOnes : Obligations.RosterChangeWriteClearsOnes := by
  intro v s high
  refine ⟨s.clearChangeFlags v, exec_takes (State.clearChangeFlags v) rfl high, rfl, fun n => ?_⟩
  unfold State.rosterEntry
  split
  · next low =>
    have there := clearChanges_getElem? v 0 n.toNat s.member.roster.toList
    rw [List.getElem?_eq_getElem (by simpa [clearChanges_length] using low),
      List.getElem?_eq_getElem (by simpa using low),
      Option.map_some, Option.some_inj, Nat.zero_add] at there
    exact there
  · rfl

/-! ## RESET_N (R195 to R197) -/

/-- Settles O25. -/
theorem hardwareResetAndRelease : Obligations.HardwareResetAndRelease := by
  refine ⟨fun s => ⟨s.hardwareReset, rfl, rfl, rfl, rfl, rfl, rfl, ?_⟩, fun straps s => ⟨fun low => ?_, fun high => ?_⟩⟩
  · change s.port.reset.tail = _
    unfold Port.reset
    cases s.port.state <;> rfl
  · change Host.Outcome.next (if s.host.resetLow then s.release straps else s) = _
    rw [if_pos low]
    rfl
  · change Host.Outcome.next (if s.host.resetLow then s.release straps else s) = _
    rw [if_neg (by simp [high])]

/-- With no burst a word transfer's end, and a burst's, is the end of a word left by a reset. -/
theorem portEvents_without_burst {s : State} (none : ∀ b : Burst, s.port.state ≠ .burst b) (w : Word) :
    exec (.wordTransferEnd w) s = .next s.tailDone ∧ exec (.burstEnd w) s = .next s.tailDone ∧
      exec .busError s = .next s.tailError := by
  refine ⟨?_, ?_, ?_⟩
  · change execWordTransferEnd w s = _
    unfold execWordTransferEnd
    split
    · next b h => exact absurd h (none b)
    · rfl
  · change execBurstEnd w s = _
    unfold execBurstEnd
    split
    · next b h => exact absurd h (none b)
    · rfl
  · change execBusError s = _
    unfold execBusError
    split
    · next b h => exact absurd h (none b)
    · rfl

theorem tailDone_of_none {s : State} (none : s.port.tail = none) : s.tailDone = s := by
  unfold State.tailDone
  rw [none]

theorem tailError_of_none {s : State} (none : s.port.tail = none) : s.tailError = s := by
  unfold State.tailError
  rw [← none]

theorem tailDone_of_some {s : State} {x : WordTransfer} (left : s.port.tail = some x) :
    s.tailDone = { s with
      port := { s.port with tail := none }
      ramWrites := if x.dir = .write then s.ramWrites ++ [(x.addr, x.data)] else s.ramWrites } := by
  unfold State.tailDone State.wordWritten
  rw [left]
  dsimp only
  cases x.dir <;> rfl

/-- Settles O26. -/
theorem resetLowTakesNoEvent : Obligations.ResetLowTakesNoEvent := by
  intro s low
  refine ⟨fun i formed notReset notRelease notWord notError => ?_, fun none w => ⟨fun clear => ?_, fun x left => ?_⟩, fun a => ?_, ?_⟩
  · cases i with
    | hardwareReset => exact absurd rfl notReset
    | resetRelease straps => exact absurd rfl (notRelease straps)
    | wordTransferEnd w => exact absurd rfl (notWord w).1
    | burstEnd w => exact absurd rfl (notWord w).2
    | busError => exact absurd rfl notError
    | unknownCommandCode code op =>
      have unknown : knownCommandCode code = false := by simpa [Instr.wellFormed] using formed
      calc exec (.unknownCommandCode code op) s
          = execUnknownCommandCode code op s := rfl
        _ = s.takes fun s => s.refuse code op .badOperand := by rw [execUnknownCommandCode, unknown]; rfl
        _ = .next s := takes_low low _
    | otherRegisterWrite a v =>
      calc exec (.otherRegisterWrite a v) s
          = execOtherRegisterWrite a v s := rfl
        _ = .next s := by simp [execOtherRegisterWrite, low]
    | chEnable op => exact takes_low low fun s => s.channelCommand 0x10 op (State.chEnable op)
    | chStart op => exact takes_low low fun s => s.channelCommand 0x11 op (State.chStart op)
    | chPause op => exact takes_low low fun s => s.channelCommand 0x12 op (State.chPause op)
    | chResume op => exact takes_low low fun s => s.channelCommand 0x13 op (State.chResume op)
    | chAbort op => exact takes_low low fun s => s.channelCommand 0x14 op (State.chAbort op)
    | chDisable op => exact takes_low low fun s => s.channelCommand 0x15 op (State.chDisable op)
    | _ => exact takes_low low _
  · obtain ⟨word, burst, error⟩ := portEvents_without_burst none w
    rw [word, burst, error, tailDone_of_none clear, tailError_of_none clear]
    exact ⟨rfl, rfl, rfl⟩
  · obtain ⟨word, burst, error⟩ := portEvents_without_burst none w
    rw [word, burst, error, tailDone_of_some left]
    exact ⟨rfl, rfl, rfl⟩
  · rw [State.readRegister, if_pos low]
  · simp [State.irqAsserted, low]

end Sys2Proof.Proofs
end


section
/-!
Registers read back: a word packed of fields bit by bit, a window's and a descriptor's words after a write of one of them, and
the other registers, which read as before.
-/

set_option Elab.async false

namespace Sys2Proof.Proofs

open Sys2Proof Sys2Proof.Machine Sys2Proof.Safety Sys2Proof.Laws

/-! ## Words bit by bit -/

theorem getLsbD_packWord_foldl (fields : List (Nat × Nat)) (w : Word) {i : Nat} (hi : i < 32) :
    (fields.foldl (fun w f => w ||| (BitVec.ofNat 32 f.2 <<< f.1)) w).getLsbD i =
      (w.getLsbD i || fields.any fun f => decide (f.1 ≤ i) && f.2.testBit (i - f.1)) := by
  induction fields generalizing w with
  | nil => simp
  | cons f fields ih =>
    have field : (BitVec.ofNat 32 f.2 <<< f.1).getLsbD i = (decide (f.1 ≤ i) && f.2.testBit (i - f.1)) := by
      have : i - f.1 < 32 := by omega
      rw [BitVec.getLsbD_shiftLeft, BitVec.getLsbD_ofNat]
      by_cases low : f.1 ≤ i
      · simp [hi, this, low]
      · simp [low, Nat.lt_of_not_le low]
    rw [List.foldl_cons, ih, BitVec.getLsbD_or, field, List.any_cons, Bool.or_assoc]

/-- A packed word holds at each bit what the fields that reach it hold there. -/
theorem getLsbD_packWord (fields : List (Nat × Nat)) {i : Nat} (hi : i < 32) :
    (packWord fields).getLsbD i = fields.any fun f => decide (f.1 ≤ i) && f.2.testBit (i - f.1) := by
  rw [packWord, getLsbD_packWord_foldl fields 0 hi, BitVec.ofNat_eq_ofNat, BitVec.getLsbD_zero, Bool.false_or]

theorem testBit_toNat_bool (b : Bool) (i : Nat) : b.toNat.testBit i = (decide (i = 0) && b) := by
  cases b
  · simp
  · cases i <;> simp [Nat.testBit_succ]

theorem getLsbD_clearLow2 {n : Nat} (x : BitVec n) (i : Nat) : (clearLow2 x).getLsbD i = (decide (2 ≤ i) && x.getLsbD i) := by
  rw [clearLow2, BitVec.getLsbD_shiftLeft, BitVec.getLsbD_ushiftRight]
  by_cases low : 2 ≤ i
  · rw [Nat.add_sub_cancel' low]
    by_cases hi : i < n
    · simp [low, hi, Nat.not_lt.mpr low]
    · simp [hi, BitVec.getLsbD_of_ge x i (Nat.le_of_not_lt hi)]
  · simp [low, Nat.lt_of_not_le low]

/-! ## One word of a window, one word of a descriptor -/

/-- A field from bit 0, read back. -/
theorem low_bits_eq_and {n : Nat} (v : Word) {mask : Word} (bits : ∀ i : Fin 32, mask.getLsbD i.val = decide (i.val < n)) :
    (v.extractLsb' 0 n).setWidth 32 = v &&& mask := by
  refine BitVec.eq_of_getLsbD_eq fun i hi => ?_
  rw [BitVec.getLsbD_and, bits ⟨i, hi⟩, BitVec.getLsbD_setWidth, BitVec.getLsbD_extractLsb', Nat.zero_add]
  simp [hi, Bool.and_comm]

/-- A field from bit 0 that keeps multiples of 4, read back. -/
theorem low_bits_of_four_eq_and {n : Nat} (v : Word) {mask : Word}
    (bits : ∀ i : Fin 32, mask.getLsbD i.val = decide (2 ≤ i.val ∧ i.val < n)) :
    (clearLow2 (v.extractLsb' 0 n)).setWidth 32 = v &&& mask := by
  refine BitVec.eq_of_getLsbD_eq fun i hi => ?_
  rw [BitVec.getLsbD_and, bits ⟨i, hi⟩, BitVec.getLsbD_setWidth, getLsbD_clearLow2, BitVec.getLsbD_extractLsb', Nat.zero_add]
  simp [hi, Bool.and_comm, Bool.and_left_comm, Bool.and_assoc]

theorem window_readWord_writeWord (x : Window) (w : Fin 4) (v : Word) :
    (x.writeWord w v).readWord w.val = v &&& windowMask w := by
  match w with
  | 0 =>
    change packWord [(0, (clearLow2 (v.extractLsb' 0 24)).toNat), (28, (v.extractLsb' 28 2).toNat),
      (31, (v.getLsbD 31).toNat)] = v &&& 0xB0FFFFFC
    refine BitVec.eq_of_getLsbD_eq fun i hi => ?_
    rw [BitVec.getLsbD_and, getLsbD_packWord _ hi]
    simp only [List.any_cons, List.any_nil, BitVec.testBit_toNat, testBit_toNat_bool, getLsbD_clearLow2,
      BitVec.getLsbD_extractLsb']
    interval_cases i <;> simp
  | 1 => exact low_bits_of_four_eq_and (n := 25) v (mask := 0x01FFFFFC) (by decide)
  | 2 =>
    change clearLow2 v = v &&& 0xFFFFFFFC
    have whole := low_bits_of_four_eq_and (n := 32) v (mask := 0xFFFFFFFC) (by decide)
    rwa [BitVec.setWidth_eq, BitVec.extractLsb'_eq_self] at whole
  | 3 => exact low_bits_eq_and (n := 31) v (mask := 0x7FFFFFFF) (by decide)

theorem window_readWord_writeWord_other (x : Window) {w u : Fin 4} (other : u ≠ w) (v : Word) :
    (x.writeWord w v).readWord u.val = x.readWord u.val := by
  match w, u with
  | 0, 0 | 1, 1 | 2, 2 | 3, 3 => exact absurd rfl other
  | 0, 1 | 0, 2 | 0, 3 | 1, 0 | 1, 2 | 1, 3 | 2, 0 | 2, 1 | 2, 3 | 3, 0 | 3, 1 | 3, 2 => rfl

theorem bit_ofBit (b : Bool) : (Direction.ofBit b).bit = b.toNat ∧ (AddrMode.ofBit b).bit = b.toNat ∧
    (Priority.ofBit b).bit = b.toNat := by
  cases b <;> exact ⟨rfl, rfl, rfl⟩

theorem code_ofBits (b : BitVec 2) : (TriggerSource.ofBits b).code = b.toNat := by
  revert b
  decide

theorem descriptor_readWord_writeWord (d : Descriptor) (w : Fin 8) (v : Word) :
    (d.writeWord w v).readWord w.val = v &&& descriptorMask w := by
  match w with
  | 0 =>
    have direction := (bit_ofBit (v.getLsbD 0)).1
    have remoteMode := (bit_ofBit (v.getLsbD 1)).2.1
    have localMode := (bit_ofBit (v.getLsbD 2)).2.1
    have priority := (bit_ofBit (v.getLsbD 3)).2.2
    change packWord [(0, (Direction.ofBit (v.getLsbD 0)).bit), (1, (AddrMode.ofBit (v.getLsbD 1)).bit),
      (2, (AddrMode.ofBit (v.getLsbD 2)).bit), (3, (Priority.ofBit (v.getLsbD 3)).bit), (4, (v.getLsbD 4).toNat),
      (5, (v.getLsbD 5).toNat), (6, (v.getLsbD 6).toNat), (7, (v.getLsbD 7).toNat),
      (8, (TriggerSource.ofBits (v.extractLsb' 8 2)).code), (12, (v.extractLsb' 12 2).toNat),
      (16, (v.extractLsb' 16 3).toNat)] = v &&& 0x000733FF
    refine BitVec.eq_of_getLsbD_eq fun i hi => ?_
    rw [BitVec.getLsbD_and, getLsbD_packWord _ hi, direction, remoteMode, localMode, priority, code_ofBits]
    simp only [List.any_cons, List.any_nil, BitVec.testBit_toNat, testBit_toNat_bool, BitVec.getLsbD_extractLsb']
    interval_cases i <;> simp
  | 1 => exact low_bits_eq_and (n := 5) v (mask := 0x0000001F) (by decide)
  | 2 => exact low_bits_eq_and (n := 24) v (mask := 0x00FFFFFF) (by decide)
  | 3 => exact (BitVec.and_allOnes (x := v)).symm
  | 4 => exact low_bits_eq_and (n := 24) v (mask := 0x00FFFFFF) (by decide)
  | 5 => exact low_bits_eq_and (n := 9) v (mask := 0x000001FF) (by decide)
  | 6 =>
    change packWord [(0, (v.extractLsb' 0 16).toNat), (16, (v.extractLsb' 16 5).toNat)] = v &&& 0x001FFFFF
    refine BitVec.eq_of_getLsbD_eq fun i hi => ?_
    rw [BitVec.getLsbD_and, getLsbD_packWord _ hi]
    simp only [List.any_cons, List.any_nil, BitVec.testBit_toNat, BitVec.getLsbD_extractLsb']
    interval_cases i <;> simp
  | 7 => exact low_bits_eq_and (n := 16) v (mask := 0x0000FFFF) (by decide)

theorem descriptor_readWord_writeWord_other (d : Descriptor) {w u : Fin 8} (other : u ≠ w) (v : Word) :
    (d.writeWord w v).readWord u.val = d.readWord u.val := by
  fin_cases w <;> fin_cases u <;> first | exact absurd rfl other | rfl

/-! ## The register map -/

/-- The words of the Window Table. -/
theorem registerWord_window (s : State) (n : Fin 8) (w : Fin 4) :
    s.registerWord (windowAddress n w) = (window s n).readWord w.val := by
  unfold State.registerWord
  dsimp only
  iterate 16 rw [if_neg (by rw [windowAddress_toNat]; omega)]
  rw [if_pos (by rw [windowAddress_toNat]; omega), windowAddress_toNat]
  have place : (4 * (0x20 + 4 * n.val + w.val) - 0x080) / 0x10 = n.val := by omega
  have word : 4 * (0x20 + 4 * n.val + w.val) % 0x10 / 4 = w.val := by omega
  rw [place, word, List.getD_eq_getElem _ _ (by simp)]
  simp [window, Vector.get_eq_getElem]

/-- The words of the descriptors. -/
theorem registerWord_descriptor (s : State) (c : ChannelNo) (w : Fin 8) :
    s.registerWord (descriptorAddress c w) = (s.channel c).desc.readWord w.val := by
  unfold State.registerWord
  dsimp only
  iterate 17 rw [if_neg (by rw [descriptorAddress_toNat]; omega)]
  rw [if_pos (by rw [descriptorAddress_toNat]; omega), descriptorAddress_toNat]
  have place : (4 * (0x40 + 8 * c.val + w.val) - 0x100) / 0x20 = c.val := by omega
  have word : 4 * (0x40 + 8 * c.val + w.val) % 0x20 / 4 = w.val := by omega
  rw [place, word, List.getD_eq_getElem _ _ (by simp)]
  simp [State.channel, Vector.get_eq_getElem]

/-- An address is a word of the Window Table, a word of a descriptor, or neither. -/
theorem register_cases (a : BitVec 8) : (∃ n w, a = windowAddress n w) ∨ (∃ c w, a = descriptorAddress c w) ∨
    ¬ (0x080 ≤ 4 * a.toNat ∧ 4 * a.toNat < 0x1C0) := by
  by_cases win : 0x080 ≤ 4 * a.toNat ∧ 4 * a.toNat < 0x100
  · refine .inl ⟨⟨(a.toNat - 0x20) / 4, by omega⟩, ⟨a.toNat % 4, by omega⟩, BitVec.eq_of_toNat_eq ?_⟩
    rw [windowAddress_toNat]
    dsimp only
    omega
  · by_cases desc : 0x100 ≤ 4 * a.toNat ∧ 4 * a.toNat < 0x1C0
    · refine .inr (.inl ⟨⟨(a.toNat - 0x40) / 8, by omega⟩, ⟨a.toNat % 8, by omega⟩, BitVec.eq_of_toNat_eq ?_⟩)
      rw [descriptorAddress_toNat]
      dsimp only
      omega
    · exact .inr (.inr (by omega))

theorem windowAddress_inj {n m : Fin 8} {w u : Fin 4} : windowAddress n w = windowAddress m u ↔ n = m ∧ w = u := by
  rw [BitVec.toNat_eq, windowAddress_toNat, windowAddress_toNat, Fin.ext_iff, Fin.ext_iff]
  omega

theorem descriptorAddress_inj {c d : ChannelNo} {w u : Fin 8} :
    descriptorAddress c w = descriptorAddress d u ↔ c = d ∧ w = u := by
  rw [BitVec.toNat_eq, descriptorAddress_toNat, descriptorAddress_toNat, Fin.ext_iff, Fin.ext_iff]
  omega

/-- Settles O19. -/
theorem windowWriteReadsBack : Obligations.WindowWriteReadsBack := by
  intro n w v s high offline
  set t : State := { s with inbound := { s.inbound with
    windows := s.inbound.windows.set n.val ((s.inbound.windows.get n).writeWord w v) n.isLt } } with ht
  have shell : exec (.windowTableWrite n w v) s = .next t := by
    rw [exec_takes (State.writeWindow n w v) rfl high, State.writeWindow, if_pos offline]
  have windows : ∀ m, window t m = if m = n then (window s n).writeWord w v else window s m := fun m =>
    vector_get_set _ _ _ _
  have read : ∀ u : State, u.host.resetLow = false → ∀ a, u.readRegister a = u.registerWord a := fun u high a => by
    rw [State.readRegister, if_neg (by simp [high])]
  refine ⟨t, shell, rfl, ?_, fun a other => ?_⟩
  · rw [read t high, registerWord_window, windows, if_pos rfl, window_readWord_writeWord]
  · rw [read t high, read s high]
    rcases register_cases a with ⟨m, u, rfl⟩ | ⟨c, u, rfl⟩ | rest
    · rw [registerWord_window, registerWord_window, windows]
      split
      · next same =>
        subst same
        exact window_readWord_writeWord_other _ (fun e => other (windowAddress_inj.mpr ⟨rfl, e⟩)) v
      · rfl
    · rw [registerWord_descriptor, registerWord_descriptor]
      rfl
    · unfold State.registerWord
      dsimp only
      rw [if_neg (c := 0x080 ≤ 4 * a.toNat ∧ 4 * a.toNat < 0x100) (by omega),
        if_neg (c := 0x080 ≤ 4 * a.toNat ∧ 4 * a.toNat < 0x100) (by omega)]
      rfl

/-- Settles O20. -/
theorem descriptorWriteReadsBack : Obligations.DescriptorWriteReadsBack := by
  intro c w v s high off
  set t : State := s.setChannel c { s.channel c with desc := (s.channel c).desc.writeWord w v } with ht
  have shell : exec (.descriptorWrite c w v) s = .next t := by
    rw [exec_takes (State.writeDescriptor c w v) rfl high, State.writeDescriptor, if_pos off]
    rfl
  have self : t.channel c = { s.channel c with desc := (s.channel c).desc.writeWord w v } := channel_setChannel_self s c _
  have channels : ∀ d, t.channel d = if d = c then t.channel c else s.channel d := fun d => by
    rw [self]
    exact channel_setChannel s c d _
  have read : ∀ u : State, u.host.resetLow = false → ∀ a, u.readRegister a = u.registerWord a := fun u high a => by
    rw [State.readRegister, if_neg (by simp [high])]
  refine ⟨t, shell, by rw [self], ?_, fun a other => ?_⟩
  · rw [read t high, registerWord_descriptor, self, descriptor_readWord_writeWord]
  · rw [read t high, read s high]
    rcases register_cases a with ⟨m, u, rfl⟩ | ⟨d, u, rfl⟩ | rest
    · rw [registerWord_window, registerWord_window]
      rfl
    · rw [registerWord_descriptor, registerWord_descriptor, channels]
      split
      · next same =>
        subst same
        rw [self]
        exact descriptor_readWord_writeWord_other _ (fun e => other (descriptorAddress_inj.mpr ⟨rfl, e⟩)) v
      · rfl
    · have status : ∀ k, (t.channels.toList.getD k {}).statusWord = (s.channels.toList.getD k {}).statusWord := by
        intro k
        by_cases hk : k < 6
        · have get : ∀ u : State, u.channels.toList.getD k {} = u.channel ⟨k, hk⟩ := fun u => by
            rw [List.getD_eq_getElem _ _ (by simpa using hk)]
            simp [State.channel, Vector.get_eq_getElem]
          rw [get, get, channels]
          split
          · next same =>
            rw [self, ← same]
            rfl
          · rfl
        · rw [List.getD_eq_default _ _ (by simpa using hk), List.getD_eq_default _ _ (by simpa using hk)]
      unfold State.registerWord
      dsimp only
      rw [if_neg (c := 0x100 ≤ 4 * a.toNat ∧ 4 * a.toNat < 0x1C0) (by omega),
        if_neg (c := 0x100 ≤ 4 * a.toNat ∧ 4 * a.toNat < 0x1C0) (by omega), status]
      rfl

end Sys2Proof.Proofs
end


section
/-!
The link's events: gaps, start bits and claims; the selector's choice; and the next state of each clean end of a send.
-/

set_option Elab.async false

namespace Sys2Proof.Proofs

open Sys2Proof Sys2Proof.Machine Sys2Proof.Safety Sys2Proof.Laws

/-! ## Gaps and start bits -/

/-- Settles O39. -/
theorem gapsAndStartBits : Obligations.GapsAndStartBits := by
  intro s high
  have frame := exec_takes (i := .frameGap) State.frameGap rfl high
  have round := exec_takes (i := .roundGap) State.roundGap rfl high
  have start := exec_takes (i := .startBit) State.startBit rfl high
  refine ⟨fun gap skipping => ?_, fun early => ?_, fun gap => ?_, fun early => ?_, fun gap idle => ?_, fun early => ?_⟩
  · rw [frame, State.frameGap, if_pos (by simp [Config.frameGap, gap, skipping])]
  · rw [frame, State.frameGap, if_neg]
    rw [Bool.and_eq_true, decide_eq_true_eq, decide_eq_true_eq, not_and_or]
    exact early.imp Nat.not_le.mpr id
  · rw [round, State.roundGap, if_pos (show Config.roundGap ≤ s.link.idle from gap)]
  · rw [round, State.roundGap, if_neg (show ¬ Config.roundGap ≤ s.link.idle from Nat.not_le.mpr early)]
  · rw [start, State.startBit, if_pos (by simp [Config.frameGap, gap, idle])]
  · rw [start, State.startBit, if_neg]
    rw [Bool.and_eq_true, decide_eq_true_eq, decide_eq_true_eq, not_and_or]
    exact early.symm.imp id Nat.not_le.mpr

/-! ## Claims -/

/-- A claim won: the frame's mark, the unit and the receiver's own mark are set. -/
theorem claimWon_of_claiming {s : State} {f : FrameRef} (claiming : s.link.unit = .claiming f) :
    s.claimWon = { s.setSending f true with
      link := { (s.setSending f true).link with unit := .sending f, idle := 0 }
      rx := { (s.setSending f true).rx with
        ownMark := true
        inProgress := (s.setSending f true).rx.inProgress.map fun p => { p with claim := s.claimOf f } } } := by
  unfold State.claimWon
  rw [claiming]

theorem setSending_entry {s : State} {g : Tag} (queued : (s.entry g).state = .queued) (mark : Bool) :
    s.setSending (.entry g) mark = s.setEntry g { s.entry g with sendingMark := mark } := if_pos queued

theorem setSending_response {s : State} {r : Response} {rest : List Response} (head : s.inbound.responses = r :: rest)
    (mark : Bool) : s.setSending .response mark =
      { s with inbound := { s.inbound with responses := { r with sending := mark } :: rest } } := by
  unfold State.setSending
  rw [head]

theorem setSending_dataSlot {s : State} {d : DataFrame} (slot : s.inbound.dataSlot = some d) (mark : Bool) :
    s.setSending .dataSlot mark = { s with inbound := { s.inbound with dataSlot := some { d with sending := mark } } } := by
  unfold State.setSending
  rw [slot]
  rfl

theorem setSending_control {s : State} {c : ControlFrame} {rest : List ControlFrame} (head : s.member.control = c :: rest)
    (mark : Bool) : s.setSending .control mark =
      { s with member := { s.member with control := { c with sending := mark } :: rest } } := by
  unfold State.setSending
  rw [head]
  rfl

/-- Settles O40. -/
theorem claimsStartAreLostAndWon : Obligations.ClaimsStartAreLostAndWon := by
  intro f s high
  have start := exec_takes (i := .claimStart) State.claimStart rfl high
  have lost := exec_takes (i := .claimLost) State.claimLost rfl high
  have won := exec_takes (i := .claimWon) State.claimWon rfl high
  refine ⟨fun waiting idle gap candidate => ?_, fun none => ?_, fun claiming => ?_, fun none => ⟨?_, ?_⟩,
    fun g eq claiming queued => ?_, fun c rest eq claiming head => ?_, fun r rest eq claiming head => ?_,
    fun d eq claiming slot => ?_⟩
  · rw [start, State.claimStart, if_pos (by simp [Config.frameGap, gap, idle, waiting]), candidate]
  · rw [start, State.claimStart]
    split
    · next claims =>
      simp only [Bool.and_eq_true, decide_eq_true_eq] at claims
      obtain ⟨⟨waiting, idle⟩, gap⟩ := claims
      rcases none with h | h | h | h
      · exact absurd waiting h
      · exact absurd idle h
      · exact absurd gap (Nat.not_le.mpr h)
      · rw [h]
    · rfl
  · rw [lost, State.claimLost, claiming]
    rfl
  · rw [lost, State.claimLost]
    split
    · next g h => exact absurd h (none g)
    · rfl
  · rw [won, State.claimWon]
    split
    · next g h => exact absurd h (none g)
    · rfl
  · subst eq
    rw [won, claimWon_of_claiming claiming, setSending_entry queued]
    rfl
  · subst eq
    rw [won, claimWon_of_claiming claiming, setSending_control head]
  · subst eq
    rw [won, claimWon_of_claiming claiming, setSending_response head]
  · subst eq
    rw [won, claimWon_of_claiming claiming, setSending_dataSlot slot]

/-! ## The selector (R132, R133) -/

theorem candidate_of_joined {s : State} (joined : s.member.state = .online ∨ s.member.state = .leaving) :
    s.candidate = (s.responseCandidate.or s.controlCandidate).or s.trackerCandidate := by
  unfold State.candidate
  rcases joined with h | h <;> rw [h]

theorem candidate_of_quiet {s : State} (joined : s.member.state = .online ∨ s.member.state = .leaving)
    (responses : s.inbound.responses = []) (slot : s.inbound.dataSlot = none) (control : s.member.control = []) :
    s.candidate = s.trackerCandidate := by
  rw [candidate_of_joined joined, State.responseCandidate, responses, slot, State.controlCandidate, control]
  rfl

theorem trackerCandidate_of_unspent {s : State} (unspent : s.link.spent = false) :
    s.trackerCandidate = (s.noticeCandidate.or s.requestCandidate).map .entry := by
  rw [State.trackerCandidate, if_neg (by simp [unspent])]

/-- The distance of a channel from the one after the pointer. -/
def searchRank (p c : ChannelNo) : Nat := (c.val + 5 - p.val) % 6

theorem searchOrder_sorted (p : ChannelNo) : (searchOrder p).Pairwise fun c d => searchRank p c < searchRank p d := by
  revert p
  decide

theorem mem_searchOrder (p c : ChannelNo) : c ∈ searchOrder p := by
  revert p c
  decide

/-- The choice within a level is a ready request of that level, and the first from the pointer on. -/
theorem levelCandidate_eq_some {s : State} {level : Priority} {p : ChannelNo} {g : Tag}
    (h : s.levelCandidate level p = some g) : ∃ c, (s.channel c).desc.priority = level ∧ s.requestOf c = some g ∧
      ∀ d, (s.channel d).desc.priority = level → s.requestOf d ≠ none → searchRank p c ≤ searchRank p d := by
  obtain ⟨before, c, after, order, chosen, skipped⟩ := List.findSome?_eq_some_iff.mp h
  have atLevel : (s.channel c).desc.priority = level := by
    by_contra other
    rw [if_neg other] at chosen
    cases chosen
  rw [if_pos atLevel] at chosen
  refine ⟨c, atLevel, chosen, fun d dLevel ready => ?_⟩
  have sorted := searchOrder_sorted p
  have there := mem_searchOrder p d
  rw [order] at sorted there
  rcases List.mem_append.mp there with first | rest
  · have := skipped d first
    rw [if_pos dLevel] at this
    exact absurd this ready
  · rcases List.mem_cons.mp rest with rfl | later
    · exact le_rfl
    · exact ((List.pairwise_cons.mp (List.pairwise_append.mp sorted).2.1).1 d later).le

theorem levelCandidate_eq_none {s : State} {level : Priority} {p : ChannelNo} :
    s.levelCandidate level p = none ↔ ∀ d, (s.channel d).desc.priority = level → s.requestOf d = none := by
  rw [State.levelCandidate, List.findSome?_eq_none_iff]
  refine ⟨fun h d level => ?_, fun h d _ => ?_⟩
  · have := h d (mem_searchOrder p d)
    rwa [if_pos level] at this
  · split
    · next level => exact h d level
    · rfl

theorem priority_cases (p : Priority) : p = .high ∨ p = .low := by
  cases p
  · exact .inr rfl
  · exact .inl rfl

theorem requestCandidate_eq_none {s : State} : s.requestCandidate = none ↔ ∀ d, s.requestOf d = none := by
  rw [State.requestCandidate, Option.or_eq_none_iff, levelCandidate_eq_none, levelCandidate_eq_none]
  refine ⟨fun ⟨high, low⟩ d => ?_, fun h => ⟨fun d _ => h d, fun d _ => h d⟩⟩
  exact (priority_cases (s.channel d).desc.priority).elim (high d) (low d)

/-- The chosen request: HIGH before LOW, and within its level the first from the level's pointer on. -/
theorem requestCandidate_eq_some {s : State} {g : Tag} (h : s.requestCandidate = some g) : ∃ c,
    s.requestOf c = some g ∧
    (∀ d, s.requestOf d ≠ none → (s.channel d).desc.priority = .high → (s.channel c).desc.priority = .high) ∧
    ∀ d, s.requestOf d ≠ none → (s.channel d).desc.priority = (s.channel c).desc.priority →
      searchRank (if (s.channel c).desc.priority = .high then s.link.highPtr else s.link.lowPtr) c ≤
        searchRank (if (s.channel c).desc.priority = .high then s.link.highPtr else s.link.lowPtr) d := by
  rcases Option.or_eq_some_iff.mp h with high | ⟨none, low⟩
  · obtain ⟨c, level, ready, first⟩ := levelCandidate_eq_some high
    refine ⟨c, ready, fun _ _ _ => level, fun d dReady same => ?_⟩
    rw [if_pos level]
    exact first d (same.trans level) dReady
  · obtain ⟨c, level, ready, first⟩ := levelCandidate_eq_some low
    refine ⟨c, ready, fun d dReady dHigh => absurd (levelCandidate_eq_none.mp none d dHigh) dReady, fun d dReady same => ?_⟩
    rw [if_neg (by simp [level])]
    exact first d (same.trans level) dReady

theorem requestOf_eq_some {s : State} {c : ChannelNo} {g : Tag} (h : s.requestOf c = some g) :
    g ∈ s.tracker.queued ∧ (s.entry g).owner = .channel c ∧ s.entryReady g = true := by
  have there := List.mem_of_find?_eq_some h
  have ready := List.find?_some h
  simp only [Bool.and_eq_true, decide_eq_true_eq] at ready
  obtain ⟨⟨-, owner⟩, ready⟩ := ready
  exact ⟨there, owner, ready⟩

/-- Settles O41. -/
theorem selectorOrder : Obligations.SelectorOrder := by
  intro s
  refine ⟨fun silent => ?_, fun listening => ?_, fun joined => ⟨fun r rest head waiting => ?_, fun d empty slot waiting => ?_,
    fun c rest empty slot head waiting => ?_, fun empty slot control => ?_⟩⟩
  · unfold State.candidate
    rcases silent with h | h <;> rw [h]
  · unfold State.candidate
    rw [listening]
  · rw [candidate_of_joined joined, State.responseCandidate, head]
    simp [waiting]
  · rw [candidate_of_joined joined, State.responseCandidate, empty, slot]
    simp [waiting]
  · rw [candidate_of_joined joined, State.responseCandidate, empty, slot, State.controlCandidate, head]
    simp [waiting]
  · rw [candidate_of_quiet joined empty slot control]
    refine ⟨fun spent => by rw [State.trackerCandidate, if_pos spent], fun unspent => ?_⟩
    rw [trackerCandidate_of_unspent unspent]
    refine ⟨fun before after g order notice ready skipped => ?_, fun noNotice => ?_⟩
    · have first : s.noticeCandidate = some g := by
        rw [State.noticeCandidate, List.find?_eq_some_iff_append]
        refine ⟨by simp [notice, ready], before, after, order, fun h there => ?_⟩
        by_cases kind : (s.entry h).kind = .notice
        · simp [skipped h there kind]
        · simp [kind]
      rw [first]
      rfl
    · have none : s.noticeCandidate = none := by
        rw [State.noticeCandidate, List.find?_eq_none]
        intro g there
        by_cases kind : (s.entry g).kind = .notice
        · simp [noNotice g there kind]
        · simp [kind]
      rw [none, Option.none_or]
      refine ⟨fun g chosen => ?_, by rw [Option.map_eq_none_iff, requestCandidate_eq_none]⟩
      obtain ⟨h, request, eq⟩ := Option.map_eq_some_iff.mp chosen
      cases eq
      obtain ⟨c, ready, level, first⟩ := requestCandidate_eq_some request
      obtain ⟨there, owner, entry⟩ := requestOf_eq_some ready
      exact ⟨c, owner, entry, there, level, first⟩

/-! ## Clean ends -/

theorem rxSkip_eq (s : State) : s.rxSkip = { s with
    rx := if s.rx.state = .framing then { s.rx with state := .skipping, inProgress := none } else s.rx } := by
  unfold State.rxSkip
  split <;> rfl

theorem restart_eq (h : Heartbeat) : h.restart = if h = .stopped then .stopped else .running 0 := by
  cases h <;> rfl

theorem letGo_of_waiting {s : State} (waiting : s.link.unit = .waiting) (f : FrameRef) : s.letGo f = s := by
  unfold State.letGo
  rw [waiting]

theorem withdrawControl_of_waiting {s : State} (waiting : s.link.unit = .waiting) (p : ControlKind → Bool) :
    s.withdrawControl p = s.setControl (s.member.control.filter fun f => f.sending || !p f.kind) := by
  unfold State.withdrawControl
  simp only [letGo_of_waiting waiting, ite_self]
  split <;> rfl

/-- The link after a request of a channel: the round is spent and the pointer of its level stands on it (R134, R135). -/
def LinkUnit.requested (l : LinkUnit) (p : Priority) (c : ChannelNo) : LinkUnit :=
  if p = .high then { l with spent := true, highPtr := c } else { l with spent := true, lowPtr := c }

theorem afterSend_notice {s : State} {g : Tag} (notice : (s.entry g).kind = .notice) :
    s.afterSend (.entry g) = { s with link := { s.link with spent := true } } := by
  unfold State.afterSend
  dsimp only
  rw [notice]

theorem afterSend_request {s : State} {g : Tag} {c : ChannelNo} (owner : (s.entry g).owner = .channel c)
    (request : (s.entry g).kind ≠ .notice) :
    s.afterSend (.entry g) = { s with link := LinkUnit.requested s.link (s.channel c).desc.priority c } := by
  unfold State.afterSend LinkUnit.requested
  dsimp only
  rw [owner]
  cases kind : (s.entry g).kind with
  | notice => exact absurd kind request
  | read => dsimp only; cases (s.channel c).desc.priority <;> rfl
  | write => dsimp only; cases (s.channel c).desc.priority <;> rfl

/-- What a clean end does before the producer takes it. -/
theorem cleanEnd_eq {s : State} {f : FrameRef} {l : LinkUnit} (after : s.afterSend f = { s with link := l }) :
    cleanEnd f s = { s with
      link := { l with unit := .waiting, idle := 0, garble := 0 }
      rx := if s.rx.state = .framing then { s.rx with state := .skipping, inProgress := none } else s.rx
      member := { s.member with
        heartbeat := if s.member.heartbeat = .stopped then .stopped else .running 0
        control := s.member.control.filter fun f => f.sending || !f.kind.byTimer } } := by
  unfold cleanEnd
  dsimp only
  rw [after, rxSkip_eq, ← restart_eq, withdrawControl_of_waiting rfl]
  rfl

theorem exec_sendCleanEnd {s : State} (high : s.host.resetLow = false) {f : FrameRef} (sending : s.link.unit = .sending f) :
    exec .sendCleanEnd s = .next ((cleanEnd f s).producerSent f).settle := by
  rw [exec_takes (i := .sendCleanEnd) State.sendCleanEnd rfl high, sendCleanEnd_of_sending s sending]

theorem asks_eq (p : Port) : p.asks = { p with state := if p.state = .free then .requesting else p.state } := by
  unfold Port.asks
  split <;> rfl

/-- An entry whose request or notice has been sent: LIVE with its deadline. -/
def sentEntry (s : State) (g : Tag) : State :=
  { s.setEntry g { s.entry g with state := .live, sendingMark := false, deadline := some s.responseTime } with
    tracker := { (s.setEntry g { s.entry g with
      state := .live, sendingMark := false, deadline := some s.responseTime }).tracker with
      queued := s.tracker.queued.filter (· ≠ g) } }

theorem entrySent_of_no_payload {s : State} {g : Tag} (queued : (s.entry g).state = .queued)
    (kind : (s.entry g).kind ≠ .write) : s.entrySent g = sentEntry s g := by
  unfold State.entrySent
  dsimp only
  rw [if_pos queued]
  split
  · next write _ => exact absurd write kind
  · rfl

theorem entrySent_of_write {s : State} {g : Tag} {c : ChannelNo} (queued : (s.entry g).state = .queued)
    (kind : (s.entry g).kind = .write) (owner : (s.entry g).owner = .channel c) :
    s.entrySent g = { sentEntry s g with channels := (s.setChannel c { s.channel c with payload := none }).channels } := by
  unfold State.entrySent
  dsimp only
  rw [if_pos queued]
  split
  · next d _ other =>
    cases owner.symm.trans other
    rfl
  · next none => exact absurd owner (none c kind)

/-- Settles O42. -/
theorem requestSentCleanly : Obligations.RequestSentCleanly := by
  intro g s high sending queued
  have shell := exec_sendCleanEnd high sending
  refine ⟨fun notice => ?_, fun c owner request => ?_⟩
  · have clean := cleanEnd_eq (afterSend_notice notice)
    rw [shell, State.producerSent, entrySent_of_no_payload, clean]
    · rfl
    · rw [clean]; exact queued
    · rw [clean]; exact fun write => absurd (write.symm.trans notice) (by decide)
  · have clean := cleanEnd_eq (afterSend_request owner request)
    have level : ∀ {l : LinkUnit}, l = LinkUnit.requested s.link (s.channel c).desc.priority c →
        { l with unit := .waiting, idle := 0, garble := 0 } = (let l : LinkUnit := { s.link with
          unit := .waiting, idle := 0, garble := 0, spent := true }
        if (s.channel c).desc.priority = .high then { l with highPtr := c } else { l with lowPtr := c }) := by
      rintro l rfl
      unfold LinkUnit.requested
      split <;> rfl
    rw [shell, State.producerSent]
    by_cases kind : (s.entry g).kind = .write
    · rw [entrySent_of_write (c := c), clean, level rfl, if_pos kind]
      · rfl
      · rw [clean]; exact queued
      · rw [clean]; exact kind
      · rw [clean]; exact owner
    · rw [entrySent_of_no_payload, clean, level rfl, if_neg kind]
      · rfl
      · rw [clean]; exact queued
      · rw [clean]; exact kind

/-- Settles O43. -/
theorem answerSentCleanly : Obligations.AnswerSentCleanly := by
  intro s high
  dsimp only
  refine ⟨fun r rest sending head => ?_, fun next r rest sending reading head => ⟨fun more => ?_, fun last => ?_⟩,
    fun st b rest sending head => ?_⟩
  · rw [exec_sendCleanEnd high sending, cleanEnd_eq (f := .response) (l := s.link) rfl, State.producerSent]
    simp only [head, List.tail_cons]
  · rw [exec_sendCleanEnd high sending, cleanEnd_eq (f := .dataSlot) (l := s.link) rfl, State.producerSent, State.dataSent]
    simp only [reading, head, if_pos more, State.requestService, asks_eq]
    rfl
  · rw [exec_sendCleanEnd high sending, cleanEnd_eq (f := .dataSlot) (l := s.link) rfl, State.producerSent, State.dataSent]
    simp only [reading, head, if_neg (Nat.not_lt.mpr last)]
    simp only [State.headDone, List.tail_cons]
  · rw [exec_sendCleanEnd high sending, cleanEnd_eq (f := .control) (l := s.link) rfl, State.producerSent, State.controlSent]
    simp only [head, List.filter_cons]
    rfl

end Sys2Proof.Proofs
end


section
/-!
What the work inside a step keeps, read off the writes it is made of: quarantined entries, ended channels and what they own,
flags, a slot that is not SENDING; and the dispatch of a frame by its kind.
-/

set_option Elab.async false

namespace Sys2Proof.Proofs

open Sys2Proof Sys2Proof.Machine Sys2Proof.Safety Sys2Proof.Laws

/-! ## What the work inside a step keeps -/

theorem flag_raise (s : State) (f g : EventFlag) (h : s.flag g = true) : (s.raise f).flag g = true := by
  rw [State.flag] at h
  simp only [State.flag, State.raise, BitVec.getLsbD_or, h, Bool.true_or]

theorem flag_raise_self (s : State) (f : EventFlag) : (s.raise f).flag f = true := by
  have bit : f.bit < 32 := by
    cases f with
    | chEnd n => exact n.isLt.trans (by decide)
    | chErr n => have := n.isLt; simp only [EventFlag.bit]; omega
    | _ => decide
  simp [State.flag, State.raise, EventFlag.mask, bit]

theorem Inside.flag {s t : State} (h : Inside s t) {f : EventFlag} (set : s.flag f = true) : t.flag f = true := by
  refine h.keeps (P := fun u => u.flag f = true) (fun u v w hu => ?_) (fun u v g hu => ?_) set
  · cases w with
    | raise e => exact flag_raise u e f hu
    | _ => exact hu
  · cases g with
    | queue => exact hu

/-- No write of a step touches a quarantined entry. -/
theorem Inside.quarantined {s t : State} (h : Inside s t) {g : Tag} (q : (s.entry g).state = .quarantined) :
    t.entry g = s.entry g := by
  refine h.keeps (P := fun u => u.entry g = s.entry g) (fun u v w hu => ?_) (fun u v w hu => ?_) rfl
  · cases w with
    | entry a e move =>
      rw [entry_setEntry]
      split
      · next same =>
        subst same
        rw [hu] at move
        generalize s.entry g = x at move q
        cases move with
        | release other => rw [q] at other; cases other
        | answered other => rw [q] at other; rcases other with h | h <;> cases h
        | abandon other => rw [q] at other; cases other
        | quarantine other => rw [q] at other; rcases other with h | h <;> cases h
        | landing other => rw [q] at other; cases other
      · exact hu
    | _ => exact hu
  · cases w with
    | queue a e free =>
      rw [entry_setEntry, if_neg, hu]
      rintro rfl
      rw [hu, q] at free
      cases free

/-- An ended channel owns no QUEUED and no LIVE entry. -/
def OwnsNone (s : State) (c : ChannelNo) : Prop :=
  ∀ g : Tag, (s.entry g).owner = .channel c → (s.entry g).state ≠ .queued ∧ (s.entry g).state ≠ .live

theorem EntryWork.owner {e x : Entry} (h : EntryWork e x) : x.owner = e.owner := by
  cases h <;> rfl

theorem EntryWork.open_of_open {e x : Entry} (h : EntryWork e x) (opened : x.state = .queued ∨ x.state = .live) :
    e.state = .queued ∨ e.state = .live := by
  cases h with
  | landing live => exact .inr live
  | _ => rcases opened with h | h <;> cases h

/-- An ended channel without a payload stays as it is, and no entry becomes its own. -/
theorem Inside.ended {s t : State} (h : Inside s t) {c : ChannelNo} (ended : Ended (s.channel c))
    (payload : (s.channel c).payload = none) (none : OwnsNone s c) : t.channel c = s.channel c ∧ OwnsNone t c := by
  refine h.keeps (P := fun u => u.channel c = s.channel c ∧ OwnsNone u c) (fun u v w ⟨hu, ho⟩ => ?_) (fun u v w ⟨hu, ho⟩ => ?_)
    ⟨rfl, none⟩
  · cases w with
    | entry a e move =>
      refine ⟨hu, fun g => ?_⟩
      rw [entry_setEntry]
      split
      · next same =>
        subst same
        intro owner
        have old := ho g (move.owner ▸ owner)
        exact not_or.mp fun opened => (move.open_of_open opened).elim old.1 old.2
      · exact ho g
    | channel d x move =>
      refine ⟨?_, ho⟩
      rw [channel_setChannel]
      split
      · next same =>
        subst same
        rcases move.ended (hu ▸ ended) with eq | eq
        · rw [eq, hu]
        · rw [eq, hu, ← payload]
      · exact hu
    | _ => exact ⟨hu, ho⟩
  · cases w with
    | queue a e free queued timers present alone =>
      refine ⟨hu, fun g => ?_⟩
      rw [entry_setEntry]
      split
      · exact fun owner => absurd (hu ▸ ended.off) (alone c owner).2
      · exact ho g

theorem Inside.slot {s t : State} (h : Inside s t) (quiet : s.notices.slot.state.isSending = false) :
    t.notices.slot = s.notices.slot := by
  refine h.keeps (P := fun u => u.notices.slot = s.notices.slot) (fun u v w hu => ?_) (fun u v w hu => ?_) rfl
  · cases w with
    | slot x sending => rw [hu, quiet] at sending; cases sending
    | _ => exact hu
  · cases w with
    | queue => exact hu

section
variable (s : State) (old : List (ChannelNo × BurstRequest))

@[simp] theorem checkDrain_entry (g : Tag) : s.checkDrain.entry g = s.entry g := by unfold State.checkDrain; split <;> rfl
@[simp] theorem checkDrain_channel (c : ChannelNo) : s.checkDrain.channel c = s.channel c := by
  unfold State.checkDrain; split <;> rfl
@[simp] theorem checkDrain_flag (f : EventFlag) : s.checkDrain.flag f = s.flag f := by unfold State.checkDrain; split <;> rfl
@[simp] theorem checkDrain_notices : s.checkDrain.notices = s.notices := by unfold State.checkDrain; split <;> rfl
@[simp] theorem checkDrain_inbound : s.checkDrain.inbound = s.inbound := by unfold State.checkDrain; split <;> rfl
@[simp] theorem checkDrain_rx : s.checkDrain.rx = s.rx := by unfold State.checkDrain; split <;> rfl
@[simp] theorem checkDrain_tracker : s.checkDrain.tracker = s.tracker := by unfold State.checkDrain; split <;> rfl

@[simp] theorem orderFetches_entry (g : Tag) : (s.orderFetches old).entry g = s.entry g := rfl
@[simp] theorem orderFetches_channel (c : ChannelNo) : (s.orderFetches old).channel c = s.channel c := rfl
@[simp] theorem orderFetches_flag (f : EventFlag) : (s.orderFetches old).flag f = s.flag f := rfl

theorem settleFrom_flag {f : EventFlag} (set : s.flag f = true) : (s.settleFrom old).flag f = true := by
  obtain ⟨u, inside, eq⟩ := settleFrom_eq s old
  rw [eq, orderFetches_flag, checkDrain_flag]
  exact inside.flag set

theorem settleFrom_quarantined {g : Tag} (q : (s.entry g).state = .quarantined) : (s.settleFrom old).entry g = s.entry g := by
  obtain ⟨u, inside, eq⟩ := settleFrom_eq s old
  rw [eq, orderFetches_entry, checkDrain_entry]
  exact inside.quarantined q

theorem settleFrom_ended {c : ChannelNo} (ended : Ended (s.channel c)) (payload : (s.channel c).payload = none)
    (none : OwnsNone s c) : (s.settleFrom old).channel c = s.channel c ∧ OwnsNone (s.settleFrom old) c := by
  obtain ⟨u, inside, eq⟩ := settleFrom_eq s old
  obtain ⟨channel, owns⟩ := inside.ended ended payload none
  rw [eq]
  exact ⟨by rw [orderFetches_channel, checkDrain_channel, channel], fun g => by
    rw [orderFetches_entry, checkDrain_entry]; exact owns g⟩

theorem settleFrom_slot (quiet : s.notices.slot.state.isSending = false) :
    (s.settleFrom old).notices.slot = s.notices.slot := by
  obtain ⟨u, inside, eq⟩ := settleFrom_eq s old
  rw [eq, orderFetches_notices, checkDrain_notices]
  exact inside.slot quiet

end

/-! ## The head that is due -/

theorem landingMark_of_landingTag_none {s : State} (none : s.landingTag = none) (g : Tag) : (s.entry g).landingMark = false := by
  have := List.find?_eq_none.mp none g (mem_allTags g)
  simpa using this

theorem dispatchDue_of_head {s : State} {f : Frame} {rest : List Frame} (none : s.landingTag = none)
    (head : s.rx.buffer = f :: rest) : s.dispatchDue = true := by
  simp [State.dispatchDue, none, head]

theorem exec_frameDispatch {s : State} {f : Frame} {rest : List Frame} (high : s.host.resetLow = false)
    (none : s.landingTag = none) (head : s.rx.buffer = f :: rest) : exec .frameDispatch s = .next s.dispatchHead.settle := by
  rw [exec_takes (i := .frameDispatch) State.frameDispatch rfl high, State.frameDispatch,
    if_pos (dispatchDue_of_head none head)]

theorem popBuffer_of_head {s : State} {f : Frame} {rest : List Frame} (head : s.rx.buffer = f :: rest) :
    s.popBuffer = { s with rx := { s.rx with buffer := rest } } := by
  rw [State.popBuffer, head, List.tail_cons]

theorem saturatingSucc_eq (x : BitVec 16) : saturatingSucc x = if x = 0xFFFF then 0xFFFF else x + 1 := by
  unfold saturatingSucc
  split
  · next full => rw [full]
  · rfl

theorem placeOrDrop_of_full {s : State} (full : 8 ≤ s.inbound.responses.length) (r : Response) :
    s.placeOrDrop r = s.countDropped := by
  rw [State.placeOrDrop, if_pos]
  exact decide_eq_true full

/-! ## Requests -/

theorem requestArrives_of_refusal {s : State} {src : StationNo} {write : Bool} {addr : BitVec 24} {len : BitVec 16}
    {p : List Byte} {reason : RefuseReason} (refused : s.arrivalCheck src write addr len p = .inl reason) (g : Tag) :
    s.requestArrives src g write addr len p = s.placeOrDrop { dest := src, tag := g, answer := .refuse reason } := by
  unfold State.requestArrives
  rw [refused]

theorem requestArrives_of_accepted {s : State} {src : StationNo} {write : Bool} {addr : BitVec 24} {len : BitVec 16}
    {p : List Byte} {a : Word} (accepted : s.arrivalCheck src write addr len p = .inr a) (g : Tag) :
    s.requestArrives src g write addr len p = { s with inbound := { s.inbound with
      queue := s.inbound.queue ++ [{ src := src, tag := g, write := write, remote := addr, length := len.toNat
                                     localAddr := a, payload := p }] } } := by
  unfold State.requestArrives
  rw [accepted]

/-- Settles O32. -/
theorem requestsAreDispatched : Obligations.RequestsAreDispatched := by
  intro s f rest g write addr len p high none head kind u
  have dispatch : s.dispatchHead = u.requestArrives f.src g write addr len p := by
    unfold State.dispatchHead
    rw [popBuffer_of_head head, head]
    rcases kind with ⟨rfl, rfl, body⟩ | ⟨rfl, body⟩ <;> simp only [body] <;> rfl
  have shell := exec_frameDispatch high none head
  rw [dispatch] at shell
  refine ⟨fun reason refused => ⟨fun room => ?_, fun full => ?_⟩, fun a accepted => ?_⟩
  · have refusedU : u.arrivalCheck f.src write addr len p = .inl reason := refused
    rw [shell, requestArrives_of_refused refusedU room]
  · have refusedU : u.arrivalCheck f.src write addr len p = .inl reason := refused
    rw [shell, requestArrives_of_refusal refusedU, placeOrDrop_of_full (s := u) full, State.countDropped, saturatingSucc_eq]
  · have acceptedU : u.arrivalCheck f.src write addr len p = .inr a := accepted
    rw [shell, requestArrives_of_accepted acceptedU]

/-! ## Notices (R89 to R95) -/

theorem allChannels_sorted : allChannels.Pairwise (· < ·) := by decide

/-- The first channel by number that passes a test. -/
theorem find_allChannels {p : ChannelNo → Bool} {c : ChannelNo} (hit : p c = true) (first : ∀ d, d < c → p d = false) :
    allChannels.find? p = some c := by
  rw [List.find?_eq_some_iff_append]
  obtain ⟨before, after, order⟩ := List.append_of_mem (mem_allChannels c)
  refine ⟨hit, before, after, order, fun d there => ?_⟩
  have sorted := allChannels_sorted
  rw [order] at sorted
  simp [first d ((List.pairwise_append.mp sorted).2.2 d there c List.mem_cons_self)]

theorem candidate_iff (ch : Channel) (src : StationNo) (code : BitVec 16) : ch.candidate src code = true ↔
    ch.state = .armed ∧ ch.desc.triggerSource = .notice ∧ ch.latch = false ∧ ch.desc.triggerCode = code ∧
      (ch.desc.triggerStation = src ∨ ch.desc.triggerStation = 31) := by
  simp only [Channel.candidate, Bool.and_eq_true, Bool.or_eq_true, decide_eq_true_eq, Bool.not_eq_true', and_assoc]

theorem responsesFull_of_room {s : State} (room : s.inbound.responses.length < 8) : s.responsesFull = false :=
  decide_eq_false (Nat.not_le.mpr room)

theorem responsesFull_of_full {s : State} (full : 8 ≤ s.inbound.responses.length) : s.responsesFull = true :=
  decide_eq_true full

/-- Settles O33. -/
theorem noticesAreTestedInOrder : Obligations.NoticesAreTestedInOrder := by
  intro s f rest g code high none head body u answered droppedOne takes
  have dispatch : s.dispatchHead = u.noticeArrives f.src g code := by
    unfold State.dispatchHead
    rw [popBuffer_of_head head, head]
    simp only [body]
    rfl
  have shell := exec_frameDispatch high none head
  rw [dispatch] at shell
  have candidate : ∀ c, (u.channel c).candidate f.src code = true ↔ takes c := fun c => candidate_iff (s.channel c) _ _
  have dropped : u.countDropped = droppedOne := by
    rw [State.countDropped, saturatingSucc_eq]
  refine ⟨fun away room => ?_, fun full => ?_, fun online room => ⟨fun c hit first => ?_, fun noChannel space => ?_,
    fun noChannel full => ?_⟩⟩
  · have awayU : u.member.state ≠ .online := away
    rw [shell, State.noticeArrives, if_pos awayU, placeOrDrop_of_room (s := u) room]
  · have fullU : u.responsesFull = true := responsesFull_of_full full
    rw [shell, State.noticeArrives, placeOrDrop_of_full (s := u) full, if_pos fullU, dropped, ite_self]
  all_goals
    have onlineU : ¬ u.member.state ≠ .online := not_not.mpr online
    have roomU : ¬ u.responsesFull = true := by rw [Bool.not_eq_true]; exact responsesFull_of_room room
    rw [shell, State.noticeArrives, if_neg onlineU, if_neg roomU]
  · rw [find_allChannels ((candidate c).mpr hit) fun d less => Bool.eq_false_iff.mpr fun k => first d less ((candidate d).mp k)]
    rfl
  · rw [List.find?_eq_none.mpr fun c _ k => noChannel c ((candidate c).mp k)]
    dsimp only
    rw [if_pos (show u.notices.queue.length < Config.noticeQueueSize from space)]
    rfl
  · rw [List.find?_eq_none.mpr fun c _ k => noChannel c ((candidate c).mp k)]
    dsimp only
    rw [if_neg (show ¬ u.notices.queue.length < Config.noticeQueueSize from Nat.not_lt.mpr full)]
    rfl

/-! ## Answers (R48 to R52, R60) -/

theorem answers_iff (e : Entry) (src : StationNo) (b : FrameBody) : e.answers src b = true ↔ Matches e src b := by
  have fits : e.kind.fits b = true ↔ (match b with
      | .readData .. => e.kind = .read
      | .ack _ => e.kind = .write ∨ e.kind = .notice
      | .refuse .. => True
      | _ => False) := by
    cases b <;> cases e.kind <;> simp [EntryKind.fits]
  simp only [Entry.answers, Bool.and_eq_true, Bool.or_eq_true, decide_eq_true_eq, fits, and_assoc]
  rfl

theorem answerArrives_of_stale {s : State} {src : StationNo} {g : Tag} {b : FrameBody} (stale : ¬ Matches (s.entry g) src b)
    (res : Result) : s.answerArrives src g b res = s.countStale := by
  rw [State.answerArrives, if_neg (mt (answers_iff _ _ _).mp stale)]

theorem answerArrives_of_abandoned {s : State} {src : StationNo} {g : Tag} {b : FrameBody} (fits : Matches (s.entry g) src b)
    (abandoned : (s.entry g).state = .abandoned) (res : Result) : s.answerArrives src g b res = s.freeEntry g := by
  rw [State.answerArrives, if_pos ((answers_iff _ _ _).mpr fits), if_neg (by simp [abandoned])]

theorem answerArrives_of_live {s : State} {src : StationNo} {g : Tag} {b : FrameBody} (fits : Matches (s.entry g) src b)
    (live : (s.entry g).state = .live) (res : Result) :
    s.answerArrives src g b res = (s.freeEntry g).report (s.entry g).owner g res := by
  rw [State.answerArrives, if_pos ((answers_iff _ _ _).mpr fits), if_pos live, State.finalAnswer]

/-- The Host Notice Slot takes each result for the tag it holds (R99). -/
theorem report_host {s : State} {g : Tag} (sending : s.notices.slot.state = .sending (.tagged g)) :
    s.report .host g .completed = s.finishSlot .acked none ∧
    (∀ r : RefuseReason, r = .busy ∨ r = .noticeFull → s.report .host g (.refused r) = s.busySlot r) ∧
    (∀ r : RefuseReason, r ≠ .busy → r ≠ .noticeFull → s.report .host g (.refused r) = s.finishSlot .refused (some r)) ∧
    s.report .host g .timeout = (if s.notices.slot.attempts + 1 ≤ Config.hostRetryLimit then
      s.setSlot { s.notices.slot with attempts := s.notices.slot.attempts + 1, state := .sending .waiting }
      else (s.setSlot { s.notices.slot with attempts := s.notices.slot.attempts + 1 }).finishSlot .timeout none) ∧
    s.report .host g .peerLost = s.finishSlot .peerLost none := by
  have report : ∀ res, s.report .host g res = s.slotResult g res := fun _ => rfl
  simp only [report]
  unfold State.slotResult
  dsimp only
  simp only [if_pos sending]
  refine ⟨trivial, ?_, ?_, trivial, trivial⟩
  · rintro r (rfl | rfl) <;> rfl
  · intro r notBusy notFull
    cases r with
    | busy => exact absurd rfl notBusy
    | noticeFull => exact absurd rfl notFull
    | _ => rfl

theorem busySlot_of_below {s : State} (below : s.notices.slot.busy < 15) (r : RefuseReason) :
    s.busySlot r = s.setSlot { s.notices.slot with
      busy := s.notices.slot.busy + 1, state := .sending (.backoff (100 * (s.notices.slot.busy + 1))) } := by
  have limit : s.notices.slot.busy + 1 ≤ Config.busyLimit := below
  rw [State.busySlot]
  dsimp only
  rw [if_pos limit]
  rfl

theorem busySlot_of_limit {s : State} (limit : 15 ≤ s.notices.slot.busy) (r : RefuseReason) :
    s.busySlot r = (s.setSlot { s.notices.slot with busy := s.notices.slot.busy + 1 }).finishSlot .refused (some r) := by
  have beyond : ¬ s.notices.slot.busy + 1 ≤ Config.busyLimit := Nat.not_le.mpr (Nat.lt_succ_of_le limit)
  rw [State.busySlot]
  dsimp only
  rw [if_neg beyond]

/-- Settles O34. -/
theorem answersMatchOrAreStale : Obligations.AnswersMatchOrAreStale := by
  refine ⟨fun s f rest g high none head body => ?_, fun s g => ?_⟩
  · intro e u freed
    have shell := exec_frameDispatch high none head
    have dispatch : ∀ res, (f.body = .ack g ∧ res = .completed ∨ ∃ r, f.body = .refuse g r ∧ res = .refused r) →
        s.dispatchHead = u.answerArrives f.src g f.body res := by
      intro res kind
      unfold State.dispatchHead
      rw [popBuffer_of_head head, head]
      rcases kind with ⟨body, rfl⟩ | ⟨r, body, rfl⟩ <;> simp only [body] <;> rfl
    obtain ⟨res, kind⟩ : ∃ res : Result, f.body = .ack g ∧ res = .completed ∨ ∃ r, f.body = .refuse g r ∧ res = .refused r := by
      rcases body with h | ⟨r, h⟩
      · exact ⟨_, .inl ⟨h, rfl⟩⟩
      · exact ⟨_, .inr ⟨r, h, rfl⟩⟩
    have live : Matches e f.src f.body → e.state = .live → ∀ res,
        (f.body = .ack g ∧ res = .completed ∨ ∃ r, f.body = .refuse g r ∧ res = .refused r) →
        exec .frameDispatch s = .next (freed.report e.owner g res).settle := fun fits live res kind => by
      have fitsU : Matches (u.entry g) f.src f.body := fits
      rw [shell, dispatch res kind, answerArrives_of_live fitsU live]
      rfl
    refine ⟨fun stale => ?_, fun fits abandoned => ?_, fun fits isLive owner sending => ⟨fun ack => ?_, fun r refuse notBusy
      notFull => ?_⟩, fun fits isLive => ⟨fun ack => live fits isLive _ (.inl ⟨ack, rfl⟩), fun r refuse =>
        live fits isLive _ (.inr ⟨r, refuse, rfl⟩)⟩⟩
    · have staleU : ¬ Matches (u.entry g) f.src f.body := stale
      rw [shell, dispatch res kind, answerArrives_of_stale staleU, State.countStale, saturatingSucc_eq]
    · have fitsU : Matches (u.entry g) f.src f.body := fits
      rw [shell, dispatch res kind, answerArrives_of_abandoned fitsU abandoned]
      rfl
    · have tagged : freed.notices.slot.state = .sending (.tagged g) := sending
      rw [live fits isLive _ (.inl ⟨ack, rfl⟩), owner, (report_host tagged).1]
      rfl
    · have tagged : freed.notices.slot.state = .sending (.tagged g) := sending
      obtain ⟨-, -, refused, -⟩ := report_host tagged
      rw [live fits isLive _ (.inr ⟨r, refuse, rfl⟩), owner, refused r notBusy notFull]
      rfl
  · intro x ends sending
    obtain ⟨completed, busy, refused, timeout, peerLost⟩ := report_host sending
    refine ⟨completed.trans rfl, fun r kind => ⟨fun below => ?_, fun limit => ?_⟩, fun r notBusy notFull => ?_, fun below => ?_,
      fun limit => ?_, peerLost.trans rfl⟩
    · rw [busy r kind, busySlot_of_below below]
      rfl
    · rw [busy r kind, busySlot_of_limit limit]
      rfl
    · rw [refused r notBusy notFull]
      rfl
    · rw [timeout, if_pos (show x.attempts + 1 ≤ Config.hostRetryLimit from below)]
      rfl
    · rw [timeout, if_neg (show ¬ x.attempts + 1 ≤ Config.hostRetryLimit from Nat.not_le.mpr (Nat.lt_succ_of_le limit))]
      rfl

/-! ## READ_DATA (R53 to R55) -/

theorem dataError_eq_false_iff (e : Entry) (last : Bool) (offset p : Nat) :
    e.dataError last offset p = false ↔ ReadDataPasses e last offset p := by
  cases last <;> simp [Entry.dataError, ReadDataPasses]
  omega

theorem landingBurst_eq (e : Entry) (offset : Nat) (p : List Byte) : e.landingBurst offset p = {
    dir := .write, mode := e.localMode, count := p.length / 4, data := wordsOfBytes p
    first := if e.localMode = .increment then e.localAddr + BitVec.ofNat 32 offset else e.localAddr } := by
  unfold Entry.landingBurst
  cases e.localMode <;> rfl

theorem endLanding_of_no_mark {s : State} {g : Tag} (clear : (s.entry g).landingMark = false) : s.endLanding g = s := by
  rw [State.endLanding, if_neg (by simp [clear])]

/-- Settles O35. -/
theorem readDataIsChecked : Obligations.ReadDataIsChecked := by
  intro s f rest g last place p high noLanding head body e offset u
  have shell := exec_frameDispatch high noLanding head
  have dispatch : s.dispatchHead = s.readDataArrives f.src g last place p := by
    unfold State.dispatchHead
    rw [head]
    simp only [body]
  have arrives : e.answers f.src (.readData g last place p) = true ↔ Matches e f.src f.body := by rw [answers_iff, body]
  rw [dispatch] at shell
  unfold State.readDataArrives at shell
  rw [popBuffer_of_head head] at shell
  have clear : (u.entry g).landingMark = false := landingMark_of_landingTag_none noLanding g
  refine ⟨fun fits live passes => ?_, fun fits live fails => ?_, fun fits abandoned => ?_, fun stale => ?_⟩
  · have good : ¬ e.dataError last offset p.length = true := by
      rw [Bool.not_eq_true, dataError_eq_false_iff]
      exact passes
    rw [shell, if_pos (arrives.mpr fits), if_pos live, if_neg good, State.requestLanding, asks_eq]
    rw [show (s.entry g).landingBurst (4 * place.toNat) p = _ from landingBurst_eq e offset p]
    rfl
  · intro t
    set q : State := u.setEntry g { e with
      state := .quarantined, sendingMark := false, landingMark := false, deadline := none
      quarantine := some (s.member.tResp.toNat * 16) } with hq
    have bad : e.dataError last offset p.length = true := by
      rw [← Bool.not_eq_false, dataError_eq_false_iff]
      exact fails
    have quarantine : u.quarantineEntry g = q := by
      rw [State.quarantineEntry, endLanding_of_no_mark clear]
      rfl
    have entry : t.entry g = q.entry g := by
      have inside := (report_working q e.owner g .dataError).inside
      have state : (q.entry g).state = .quarantined := by rw [hq, entry_setEntry_self]
      have kept := inside.quarantined state
      rw [← kept] at state ⊢
      exact settleFrom_quarantined _ _ state
    refine ⟨?_, ?_⟩
    · rw [shell, if_pos (arrives.mpr fits), if_pos live, if_pos bad, quarantine]
    · rw [entry, hq, entry_setEntry_self]
      refine ⟨rfl, rfl, rfl, rfl, ?_⟩
      have same := same_trans (report_same q e.owner g .dataError)
        (settleKeepsConfiguration _).1
      obtain ⟨-, -, -, -, -, -, -, -, -, -, -, ramWrites, -⟩ := same
      exact ramWrites
  · rw [shell, if_pos (arrives.mpr fits), if_neg (by simp [show (s.entry g).state = .abandoned from abandoned])]
    rfl
  · rw [shell, if_neg (mt arrives.mp stale), State.countStale, saturatingSucc_eq]

end Sys2Proof.Proofs
end


section
/-!
The expiries of timers, the end of the drain, the held answer, and the events of the local bus, each with its next state.
-/

set_option Elab.async false

namespace Sys2Proof.Proofs

open Sys2Proof Sys2Proof.Machine Sys2Proof.Safety Sys2Proof.Laws

/-! ## Deadlines (R44, R46, R57) -/

theorem cancel_landing_eq (p : Port) : ({ p.cancel .landing with landing := none } : Port) = { p with
    landing := none
    state := match p.state with
      | .burst b => .burst (if b.requester = .landing then { b with cancelled := true } else b)
      | .free => .free
      | .requesting => .requesting } := by
  unfold Port.cancel
  obtain ⟨state, landing, service, fetches, tail⟩ := p
  cases state with
  | free => rfl
  | requesting => rfl
  | burst b => dsimp only; split <;> rfl

theorem endLanding_of_mark {s : State} {g : Tag} (mark : (s.entry g).landingMark = true) : s.endLanding g = { s with
    rx := { s.rx with buffer := s.rx.buffer.tail }
    port := { s.port.cancel .landing with landing := none } } := by
  rw [State.endLanding, if_pos mark]
  rfl

/-- Settles O46. -/
theorem deadlineQuarantines : Obligations.DeadlineQuarantines := by
  intro g s high e q v w
  have shell := exec_takes (i := .deadlineExpiry g) (State.deadlineExpiry g) rfl high
  have quarantine : s.quarantineEntry g = w := by
    change s.quarantineEntry g = if e.landingMark = true then _ else v
    rw [State.quarantineEntry]
    by_cases mark : e.landingMark = true
    · rw [endLanding_of_mark mark, if_pos mark, cancel_landing_eq]
      cases s.port.state <;> rfl
    · rw [endLanding_of_no_mark (Bool.not_eq_true _ ▸ mark), if_neg mark]
      rfl
  have live : e.state = .live → e.deadline = some 0 →
      exec (.deadlineExpiry g) s = .next (w.report e.owner g .timeout).settle := fun state due => by
    rw [shell, State.deadlineExpiry, if_pos due, state, quarantine]
  have abandoned : e.state = .abandoned → e.deadline = some 0 → exec (.deadlineExpiry g) s = .next w.settle :=
    fun state due => by
      rw [shell, State.deadlineExpiry, if_pos due, state, quarantine]
  have entry : w.entry g = q := by
    rw [← quarantine, State.quarantineEntry, entry_setEntry_self]
    rfl
  have state : (w.entry g).state = .quarantined := by rw [entry]
  have same : SameConfiguration s w := quarantine ▸ quarantineEntry_same s g
  refine ⟨live, abandoned, fun opened due => ?_, fun running => ?_⟩
  · rcases opened with h | h
    · have reported := (report_working w e.owner g .timeout).inside.quarantined state
      refine ⟨_, live h due, ?_, same_trans (same_trans same (report_same w e.owner g .timeout)) (settleKeepsConfiguration _).1⟩
      rw [State.settle, settleFrom_quarantined _ _ (reported ▸ state), reported, entry]
    · refine ⟨_, abandoned h due, ?_, same_trans same (settleKeepsConfiguration _).1⟩
      rw [State.settle, settleFrom_quarantined _ _ state, entry]
  · rw [shell, State.deadlineExpiry, if_neg running]

/-! ## The other expiries -/

theorem list_modify_of_getElem? {α : Type} {l : List α} {i : Nat} {x : α} (there : l[i]? = some x) (f : α → α) :
    l.modify i f = l.set i (f x) := by
  rw [List.modify_eq_set_getElem?, there]
  rfl

theorem heartbeatDue_iff {s : State} {us : Micros} (running : s.member.heartbeat = .running us) :
    s.heartbeatDue = true ↔ s.member.tHb.toNat * 1000 ≤ us := by
  rw [State.heartbeatDue, running]
  exact decide_eq_true_iff

/-- Settles O47. -/
theorem expiriesReturnWork : Obligations.ExpiriesReturnWork := by
  intro s high
  refine ⟨fun g state due => ?_, fun c r x there expired => ?_, fun c x there expired => ?_, fun expired => ?_,
    fun listening due => ?_, fun early => ?_, fun us running due joined => ⟨fun empty => ?_, fun f there holds => ?_⟩,
    fun us running early => ?_⟩
  · rw [exec_takes (State.quarantineExpiry g) rfl high, State.quarantineExpiry, if_pos (by simp [state, due])]
    rfl
  · rw [exec_takes (State.segmentBackoffExpiry c r) rfl high, State.segmentBackoffExpiry, there]
    dsimp only
    rw [if_pos expired, State.modifyChannel, Channel.recordPending, list_modify_of_getElem? there]
  · rw [exec_takes (State.endNoticeBackoffExpiry c) rfl high, State.endNoticeBackoffExpiry, there]
    dsimp only
    rw [if_pos expired]
    rfl
  · rw [exec_takes State.hostNoticeBackoffExpiry rfl high, State.hostNoticeBackoffExpiry]
    dsimp only
    rw [if_pos expired]
    rfl
  · rw [exec_takes State.listenTimerExpiry rfl high, State.listenTimerExpiry, if_pos (by simp [listening, due])]
    rfl
  · rw [exec_takes State.listenTimerExpiry rfl high, State.listenTimerExpiry, if_neg]
    rw [Bool.and_eq_true, decide_eq_true_eq, decide_eq_true_eq, not_and_or]
    exact early
  · rw [exec_takes State.heartbeatTimerExpiry rfl high, State.heartbeatTimerExpiry, if_pos ((heartbeatDue_iff running).mpr due)]
    dsimp only
    rcases joined with h | h
    · simp only [h, StationState.hello, State.appendControl, State.setControl, empty]
      rfl
    · simp only [h, StationState.hello, State.appendControl, State.setControl, empty]
      rfl
  · have some : s.member.control.any (·.kind.holdsBack) = true := List.any_eq_true.mpr ⟨f, there, holds⟩
    rw [exec_takes State.heartbeatTimerExpiry rfl high, State.heartbeatTimerExpiry, if_pos ((heartbeatDue_iff running).mpr due)]
    dsimp only
    rcases joined with h | h
    · simp only [h, StationState.hello, if_pos some]
    · simp only [h, StationState.hello, if_pos some]
  · rw [exec_takes State.heartbeatTimerExpiry rfl high, State.heartbeatTimerExpiry,
      if_neg (mt (heartbeatDue_iff running).mp (Nat.not_le.mpr early))]

/-! ## The end of the drain and the held answer (R80, R112) -/

theorem drainDone_iff (s : State) : s.drainDone = true ↔ s.member.state = .leaving ∧ s.member.drain ≠ none ∧
    s.trackerQuiet = true ∧ s.inboundQuiet = true := by
  simp only [State.drainDone, Bool.and_eq_true, decide_eq_true_eq, Option.isSome_iff_ne_none, and_assoc]

theorem engineAnswer_of_room {s : State} (room : s.inbound.responses.length < 8) (a : Response) :
    s.engineAnswer a = { s with inbound := { s.inbound with
      responses := s.inbound.responses ++ [a], queue := s.inbound.queue.tail, engine := .idle } } := by
  rw [State.engineAnswer, if_neg (by simp [responsesFull_of_room room])]
  rfl

theorem engineAnswer_of_full {s : State} (full : 8 ≤ s.inbound.responses.length) (a : Response) :
    s.engineAnswer a = { s with inbound := { s.inbound with engine := .answering a } } := by
  rw [State.engineAnswer, if_pos (responsesFull_of_full full)]
  rfl

/-- Settles O48. -/
theorem drainEndAndHeldAnswer : Obligations.DrainEndAndHeldAnswer := by
  intro s high
  have drain := exec_takes (i := .drainEnd) State.checkDrain rfl high
  have place := exec_takes (i := .engineAnswerPlaced) State.engineAnswerPlaced rfl high
  refine ⟨fun leaving running tracker queue responses slot => ?_, fun busy => ?_, fun a holds => ⟨fun room => ?_, fun full => ?_⟩,
    fun none => ?_⟩
  · have quiet : s.inboundQuiet = true := by simp [State.inboundQuiet, queue, responses, slot]
    rw [drain, State.checkDrain, if_pos ((drainDone_iff s).mpr ⟨leaving, running, tracker, quiet⟩)]
    rfl
  · rw [drain, State.checkDrain, if_neg]
    rw [drainDone_iff]
    rintro ⟨leaving, running, tracker, inbound⟩
    rcases busy with h | h | h | h
    · exact h leaving
    · exact running h
    · rw [h] at tracker; cases tracker
    · rw [h] at inbound; cases inbound
  · rw [place, State.engineAnswerPlaced, holds]
    dsimp only
    rw [if_neg (by simp [responsesFull_of_room room]), State.placeHeldAnswer, holds]
    dsimp only
    rw [engineAnswer_of_room room]
  · rw [place, State.engineAnswerPlaced, holds]
    dsimp only
    rw [if_pos (responsesFull_of_full full)]
  · rw [place, State.engineAnswerPlaced]
    split
    · next a h => exact absurd h (none a)
    · rfl

/-! ## Grants and words (R171 to R175) -/

theorem choose_of_landing {p : Port} {r : BurstRequest} (landing : p.landing = some r) :
    p.choose = some ({ requester := .landing, req := r }, { p with landing := none }) := by
  unfold Port.choose
  rw [landing]

theorem choose_of_service {p : Port} {r : BurstRequest} (landing : p.landing = none) (service : p.service = some r) :
    p.choose = some ({ requester := .service, req := r }, { p with service := none }) := by
  unfold Port.choose
  rw [landing, service]

theorem choose_of_fetch {p : Port} {c : ChannelNo} {r : BurstRequest} {rest : List (ChannelNo × BurstRequest)}
    (landing : p.landing = none) (service : p.service = none) (fetches : p.fetches = (c, r) :: rest) :
    p.choose = some ({ requester := .fetch c, req := r }, { p with fetches := rest }) := by
  unfold Port.choose
  rw [landing, service, fetches]

theorem choose_of_none {p : Port} (landing : p.landing = none) (service : p.service = none) (fetches : p.fetches = []) :
    p.choose = none := by
  unfold Port.choose
  rw [landing, service, fetches]

theorem burst_addr_eq (r : BurstRequest) (j : Nat) :
    r.addr j = if r.mode = .increment then r.first + BitVec.ofNat 32 (4 * j) else r.first := by
  unfold BurstRequest.addr
  cases r.mode <;> rfl

theorem wordWritten_if (s : State) (x : WordTransfer) :
    s.wordWritten x = { s with ramWrites := if x.dir = .write then s.ramWrites ++ [(x.addr, x.data)] else s.ramWrites } := by
  unfold State.wordWritten
  cases x.dir <;> rfl

theorem exec_wordTransferEnd {s : State} {b : Burst} (burst : s.port.state = .burst b) (w : Word) :
    exec (.wordTransferEnd w) s = .next (if b.done + 1 < b.req.count then
      { s.wordWritten b.current with port := { (s.wordWritten b.current).port with state := .burst (b.step w) } } else s) := by
  change execWordTransferEnd w s = _
  unfold execWordTransferEnd
  rw [burst]

theorem step_of_write {b : Burst} (write : b.req.dir = .write) (w : Word) : b.step w = { b with done := b.done + 1 } := by
  rw [Burst.step, write]

theorem step_of_read {b : Burst} (read : b.req.dir = .read) (w : Word) :
    b.step w = { b with done := b.done + 1, got := b.got ++ [w] } := by
  rw [Burst.step, read]

/-- Settles O52. -/
theorem busGrantsAndWords : Obligations.BusGrantsAndWords := by
  refine ⟨fun s high => ⟨fun requesting clear => ?_, fun other => ?_⟩, fun w b s => ⟨fun burst more => ?_, fun burst last => ?_,
    fun x free left => ?_⟩⟩
  · have grant : exec .busGrant s = .next (match s.port.choose with
        | some (b, p) => { s with port := { p with state := .burst b } }
        | none => { s with port := { s.port with state := .free } }) :=
      (exec_takes State.busGrant rfl high).trans (congrArg Host.Outcome.next (if_pos (by simp [requesting, clear])))
    refine ⟨fun r landing => ?_, fun r landing service => ?_, fun c r rest landing service fetches => ?_,
      fun landing service fetches => ?_⟩
    · rw [grant, choose_of_landing landing]
    · rw [grant, choose_of_service landing service]
    · rw [grant, choose_of_fetch landing service fetches]
    · rw [grant, choose_of_none landing service fetches]
  · rw [exec_takes State.busGrant rfl high, State.busGrant, if_neg (by simp [other])]
  · rw [exec_wordTransferEnd burst, if_pos more, wordWritten_if, Burst.current, burst_addr_eq]
    intro a
    refine ⟨fun write => ?_, fun read => ?_⟩
    · rw [step_of_write write, if_pos write]
    · rw [step_of_read read, if_neg (by simp [read])]
  · rw [exec_wordTransferEnd burst, if_neg (Nat.not_lt.mpr last)]
  · have noBurst : ∀ b : Burst, s.port.state ≠ .burst b := fun b => by simp [free]
    rw [(portEvents_without_burst noBurst w).1, tailDone_of_some left]

/-! ## The end of a burst (R177) -/

theorem released_eq (p : Port) : p.released = { p with
    state := if p.landing = none ∧ p.service = none ∧ p.fetches = [] then .free else .requesting } := by
  have waiting : p.anyWaiting = true ↔ ¬ (p.landing = none ∧ p.service = none ∧ p.fetches = []) := by
    simp only [Port.anyWaiting, Bool.or_eq_true, Option.isSome_iff_ne_none, Bool.not_eq_true', List.isEmpty_eq_false_iff,
      not_and_or, ne_eq, or_assoc]
  unfold Port.released
  by_cases none : p.landing = none ∧ p.service = none ∧ p.fetches = []
  · rw [if_neg (mt waiting.mp (not_not.mpr none)), if_pos none]
  · rw [if_pos (waiting.mpr none), if_neg none]

theorem setEntry_setEntry (s : State) (g : Tag) (e x : Entry) : (s.setEntry g e).setEntry g x = s.setEntry g x := by
  simp [State.setEntry]

theorem landed_eq {s : State} {g h : Tag} {f : Frame} {rest : List Frame} {last : Bool} {place : BitVec 6} {p : List Byte}
    (landing : s.landingTag = some g) (head : s.rx.buffer = f :: rest) (body : f.body = .readData h last place p) :
    s.landed = (let t : State := ({ s with rx := { s.rx with buffer := rest } } : State).setEntry g { s.entry g with
        landingMark := false, received := (s.entry g).received + p.length }
      if last then t.finalAnswer g .completed else t) := by
  unfold State.landed
  rw [landing, head]
  dsimp only
  rw [body]
  dsimp only
  rw [State.popBuffer, setEntry_rx, head]
  rfl

/-- Settles O53. -/
theorem burstsEnd : Obligations.BurstsEnd := by
  intro w b s burst a u
  have shell : exec (.burstEnd w) s = .next (if b.done + 1 = b.req.count then s.burstEnd w b else s) := by
    change execBurstEnd w s = _
    unfold execBurstEnd
    rw [burst]
  have released : (s.wordWritten b.current).releaseBus = u := by
    rw [wordWritten_if, State.releaseBus, released_eq, Burst.current, burst_addr_eq]
  refine ⟨fun early => by rw [shell, if_neg early], fun last => ?_⟩
  have ends : exec (.burstEnd w) s = .next (u.reportEnd (b.step w)).settle := by
    rw [shell, if_pos last, State.burstEnd, released]
  have requested : b.cancelled = false → ∀ q : Requester, b.requester = q → u.reportEnd (b.step w) = match q with
      | .landing => u.landed
      | .service => u.serviceDone (b.step w).got
      | .fetch c => u.fetchDone c (b.step w).got := by
    rintro on q rfl
    rw [State.reportEnd, if_neg (show ¬ (b.step w).cancelled = true by rw [Bool.not_eq_true]; exact on)]
    rfl
  refine ⟨fun cancelled => ?_, fun c on fetch read => ?_, fun r rest on service writing head room => ?_,
    fun r rest on service writing head full => ?_, fun offset r rest on service read reading head => ?_,
    fun g f rest h last place p on landing tag head body => ?_⟩
  · rw [ends, State.reportEnd, if_pos (show (b.step w).cancelled = true from cancelled)]
  · rw [ends, requested on _ fetch, step_of_read read]
    rfl
  · have engine : u.serviceDone (b.step w).got = u.engineAnswer { dest := r.src, tag := r.tag, answer := .ack } := by
      unfold State.serviceDone
      rw [show u.inbound.engine = .writing from writing, show u.inbound.queue = r :: rest from head]
    rw [ends, requested on _ service]
    dsimp only
    rw [engine, engineAnswer_of_room (s := u) room, show u.inbound.queue = r :: rest from head]
    rfl
  · have engine : u.serviceDone (b.step w).got = u.engineAnswer { dest := r.src, tag := r.tag, answer := .ack } := by
      unfold State.serviceDone
      rw [show u.inbound.engine = .writing from writing, show u.inbound.queue = r :: rest from head]
    rw [ends, requested on _ service]
    dsimp only
    rw [engine, engineAnswer_of_full (s := u) full]
  · have engine : u.serviceDone (b.step w).got = u.chunkRead r offset (b.step w).got := by
      unfold State.serviceDone
      rw [show u.inbound.engine = .reading offset from reading, show u.inbound.queue = r :: rest from head]
    rw [ends, requested on _ service]
    dsimp only
    rw [engine, step_of_read read]
    rfl
  · intro e v
    have lands := landed_eq (s := u) tag head body
    rw [ends, requested on _ landing]
    dsimp only
    rw [lands]
    refine ⟨fun more => ?_, fun whole => ?_⟩
    · rw [more]
      rfl
    · rw [whole]
      dsimp only
      rw [if_pos rfl, State.finalAnswer, State.freeEntry, setEntry_setEntry, entry_setEntry_self]
      rfl

end Sys2Proof.Proofs
end


section
/-!
A line's edge on every channel of its source, and the issue of a segment: what a channel asks, and the tag it is given where no
other owner waits.
-/

set_option Elab.async false

namespace Sys2Proof.Proofs

open Sys2Proof Sys2Proof.Machine Sys2Proof.Safety Sys2Proof.Laws

/-! ## A line's edge (R4 to R6) -/

/-- What a trigger makes of a channel. -/
def triggered (ch : Channel) : Channel :=
  match ch.state with
  | .off => ch
  | .armed => if ch.latch then { ch with overrun := true } else { ch with latch := true }
  | .running | .paused | .notifying => { ch with overrun := true }

/-- A trigger that the channel cannot take, which is an overrun. -/
def overruns (ch : Channel) : Bool := ch.state ≠ .off && (ch.state ≠ .armed || ch.latch)

theorem triggered_of_off {ch : Channel} (off : ch.state = .off) : triggered ch = ch := by
  unfold triggered
  rw [off]

theorem triggered_of_free {ch : Channel} (armed : ch.state = .armed) (clear : ch.latch = false) :
    triggered ch = { ch with latch := true } := by
  unfold triggered
  simp [armed, clear]

theorem triggered_of_overrun {ch : Channel} (overrun : overruns ch = true) : triggered ch = { ch with overrun := true } := by
  unfold triggered
  unfold overruns at overrun
  cases state : ch.state <;> simp_all

theorem trigger_eq (s : State) (c : ChannelNo) : s.trigger c = { s.setChannel c (triggered (s.channel c)) with
    host := { s.host with latched := s.host.latched ||| (if overruns (s.channel c) then 0x00080000#32 else 0) } } := by
  have none : ∀ t : State, t = { t with host := { t.host with latched := t.host.latched ||| 0 } } := fun t => by
    simp
  cases overrun : overruns (s.channel c) with
  | true =>
    rw [triggered_of_overrun overrun, if_pos rfl]
    have taken : (s.channel c).state = .armed ∧ (s.channel c).latch = true ∨ (s.channel c).state = .running ∨
        (s.channel c).state = .paused ∨ (s.channel c).state = .notifying := by
      unfold overruns at overrun
      cases state : (s.channel c).state <;> simp_all
    rw [trigger_lost taken]
    rfl
  | false =>
    rw [if_neg (by decide)]
    by_cases off : (s.channel c).state = .off
    · rw [triggered_of_off off, setChannel_same, ← none]
      unfold State.trigger
      dsimp only
      rw [off]
    · have armed : (s.channel c).state = .armed ∧ (s.channel c).latch = false := by
        unfold overruns at overrun
        cases state : (s.channel c).state <;> simp_all
      rw [triggered_of_free armed.1 armed.2, trigger_latched armed.1 armed.2]
      exact none _

/-- The edge on the channels of a list. -/
theorem edge_foldl (line : Fin 2) (l : List ChannelNo) (nodup : l.Nodup) (s : State) : ∃ (chs : Vector Channel 6) (v : Word),
    l.foldl (fun s c => if (s.channel c).desc.triggerSource = lineSource line then s.trigger c else s) s =
      { s with channels := chs, host := { s.host with latched := v } } ∧
    (∀ d : ChannelNo, chs.get d =
      if d ∈ l ∧ (s.channel d).desc.triggerSource = lineSource line then triggered (s.channel d) else s.channel d) ∧
    v = s.host.latched ||| (if ∃ d ∈ l, (s.channel d).desc.triggerSource = lineSource line ∧ overruns (s.channel d) = true
      then 0x00080000#32 else 0) := by
  induction l generalizing s with
  | nil => exact ⟨s.channels, s.host.latched, rfl, fun d => by simp [State.channel], by simp⟩
  | cons c l ih =>
    obtain ⟨notThere, nodup⟩ := List.nodup_cons.mp nodup
    rw [List.foldl_cons]
    by_cases source : (s.channel c).desc.triggerSource = lineSource line
    · rw [if_pos source, trigger_eq]
      obtain ⟨chs, v, eq, get, latched⟩ := ih nodup { s.setChannel c (triggered (s.channel c)) with
        host := { s.host with latched := s.host.latched ||| (if overruns (s.channel c) then 0x00080000#32 else 0) } }
      have channel : ∀ d, State.channel { s.setChannel c (triggered (s.channel c)) with
          host := { s.host with latched := s.host.latched ||| (if overruns (s.channel c) then 0x00080000#32 else 0) } } d =
          if d = c then triggered (s.channel c) else s.channel d := fun d => channel_setChannel s c d _
      have other : ∀ d ∈ l, d ≠ c := fun d there e => notThere (e ▸ there)
      refine ⟨chs, v, eq, fun d => ?_, ?_⟩
      · rw [get, channel]
        by_cases same : d = c
        · subst same
          simp [notThere, source]
        · simp [same]
      · have later : (∃ d ∈ l, (State.channel { s.setChannel c (triggered (s.channel c)) with
            host := { s.host with latched := s.host.latched ||| (if overruns (s.channel c) then 0x00080000#32 else 0) } }
              d).desc.triggerSource = lineSource line ∧ overruns (State.channel { s.setChannel c (triggered (s.channel c)) with
            host := { s.host with latched := s.host.latched ||| (if overruns (s.channel c) then 0x00080000#32 else 0) } }
              d) = true) ↔
            ∃ d ∈ l, (s.channel d).desc.triggerSource = lineSource line ∧ overruns (s.channel d) = true := by
          refine exists_congr fun d => and_congr_right fun there => ?_
          rw [channel, if_neg (other d there)]
        rw [latched]
        simp only [later, List.exists_mem_cons_iff, source, true_and]
        by_cases first : overruns (s.channel c) = true <;>
          by_cases rest : ∃ d ∈ l, (s.channel d).desc.triggerSource = lineSource line ∧ overruns (s.channel d) = true <;>
          simp [first, rest, BitVec.or_assoc]
    · rw [if_neg source]
      obtain ⟨chs, v, eq, get, latched⟩ := ih nodup s
      refine ⟨chs, v, eq, fun d => ?_, ?_⟩
      · rw [get]
        by_cases same : d = c
        · subst same
          simp [notThere, source]
        · simp [same]
      · rw [latched]
        simp only [List.exists_mem_cons_iff, source, false_and, false_or]

theorem anyStartDue_iff (s : State) : s.anyStartDue = true ↔ ∃ c : ChannelNo, (s.channel c).state = .armed ∧
    (s.channel c).latch = true ∧ (s.channel c).pause = false ∧ s.member.state = .online ∧ s.holdDepth = 0 := by
  rw [State.anyStartDue, List.any_eq_true]
  refine ⟨fun ⟨c, _, due⟩ => ⟨c, ?_⟩, fun ⟨c, due⟩ => ⟨c, mem_allChannels c, ?_⟩⟩
  · obtain ⟨armed, latched, free⟩ := (startDue_iff s c).mp due
    rw [not_or, not_or, not_not, not_not, Bool.not_eq_true] at free
    obtain ⟨online, hold, pause⟩ := free
    exact ⟨armed, latched, pause, online, hold⟩
  · obtain ⟨armed, latched, pause, online, hold⟩ := due
    rw [startDue_iff]
    exact ⟨armed, latched, by simp [pause, online, hold]⟩

theorem triggerEdge_eq (line : Fin 2) (s : State) : s.triggerEdge line =
    if (s.edge line).anyStartDue then (s.edge line).settle else s.edge line := rfl

/-- Settles O27. -/
theorem triggerEdgeReachesItsChannels : Obligations.TriggerEdgeReachesItsChannels := by
  intro line s high
  obtain ⟨chs, v, eq, get, latched⟩ := edge_foldl line allChannels (by decide) s
  obtain ⟨t, ht⟩ : ∃ t : State, t = { s with channels := chs, host := { s.host with latched := v } } := ⟨_, rfl⟩
  have edge : s.edge line = t := eq.trans ht.symm
  have source : ∀ c : ChannelNo, (s.channel c).desc.triggerSource = lineSource line ↔
      (s.channel c).desc.triggerSource = if line = 0 then .line0 else .line1 := fun _ => Iff.rfl
  have channel : ∀ c, t.channel c = if (s.channel c).desc.triggerSource = lineSource line then triggered (s.channel c)
      else s.channel c := fun c => by
    rw [ht]
    refine (get c).trans ?_
    simp only [mem_allChannels, true_and]
  refine ⟨t, ?_, ?_, fun c => ?_, ?_⟩
  · rw [exec_takes (State.triggerEdge line) rfl high, triggerEdge_eq, edge]
    have member : t.member = s.member := by rw [ht]
    have hold : t.holdDepth = s.holdDepth := by rw [ht]
    exact congrArg _ (if_congr ((anyStartDue_iff t).trans (by rw [member, hold])) rfl rfl)
  · rw [ht]
  · intro ch hit
    refine ⟨fun missed => ?_, fun ⟨hits, on⟩ armed clear => ?_, fun ⟨hits, on⟩ taken => ?_⟩
    · rw [channel]
      split
      · next hits =>
        have off : (s.channel c).state = .off := by
          by_contra on
          exact missed ⟨hits, on⟩
        exact triggered_of_off off
      · rfl
    · rw [channel, if_pos ((source c).mpr hits), triggered_of_free armed clear]
    · rw [channel, if_pos ((source c).mpr hits), triggered_of_overrun]
      simp only [overruns, Bool.and_eq_true, Bool.or_eq_true, decide_eq_true_eq]
      exact ⟨on, taken⟩
  · rw [ht]
    refine latched.trans (congrArg _ (if_congr ?_ rfl rfl))
    simp only [mem_allChannels, true_and, overruns, Bool.and_eq_true, Bool.or_eq_true, decide_eq_true_eq]
    rfl

/-! ## The tag an owner is given -/

/-- The offer of a tag to an owner that waits. -/
def offered (s : State) (o : Owner) (g : Tag) : State :=
  match o with
  | .channel c => s.offerChannel c g
  | .host => s.offerSlot g

theorem grantTag_of_not_waits {s : State} {o : Owner} (idle : s.waits o = false) : s.grantTag o = s := by
  unfold State.grantTag
  split
  · rfl
  · rw [if_neg (by simp [idle])]

theorem grantTag_of_waits {s : State} {o : Owner} {g : Tag} (free : s.lowestFree = some g) (waits : s.waits o = true) :
    s.grantTag o = offered s o g := by
  unfold State.grantTag
  rw [free]
  dsimp only
  rw [if_pos waits]
  cases o <;> rfl

theorem foldl_grantTag_of_none {s : State} {l : List Owner} (idle : ∀ o ∈ l, s.waits o = false) :
    l.foldl State.grantTag s = s := by
  induction l with
  | nil => rfl
  | cons o l ih =>
    rw [List.foldl_cons, grantTag_of_not_waits (idle o List.mem_cons_self)]
    exact ih fun p there => idle p (List.mem_cons_of_mem o there)

theorem mem_ownerOrder (o : Owner) : o ∈ ownerOrder := by
  cases o with
  | host => decide
  | channel c => revert c; decide

/-- Where one owner waits, and none does after its offer, an allocation is its offer. -/
theorem allocateTags_of_one {s : State} {o : Owner} {g : Tag} (free : s.lowestFree = some g) (waits : s.waits o = true)
    (before : ∀ p, p ≠ o → s.waits p = false) (after : ∀ p, p ≠ o → (offered s o g).waits p = false) :
    s.allocateTags = offered s o g := by
  obtain ⟨l, r, order⟩ := List.append_of_mem (mem_ownerOrder o)
  have nodup := ownerOrder_nodup
  rw [order] at nodup
  obtain ⟨-, right, apart⟩ := List.nodup_append.mp nodup
  have earlier : l.foldl State.grantTag s = s :=
    foldl_grantTag_of_none fun p there => before p fun e => apart p there o List.mem_cons_self e
  have later : r.foldl State.grantTag (offered s o g) = offered s o g :=
    foldl_grantTag_of_none fun p there => after p fun e => (List.nodup_cons.mp right).1 (e ▸ there)
  rw [State.allocateTags, order, List.foldl_append, List.foldl_cons, earlier, grantTag_of_waits free waits, later]

/-! ## A segment's request -/

theorem find_isPending {before after : List SegRecord} {r : SegRecord} (first : ∀ x ∈ before, x.state ≠ .pending)
    (pending : r.state = .pending) : (before ++ r :: after).find? SegRecord.isPending = some r := by
  rw [List.find?_eq_some_iff_append]
  exact ⟨decide_eq_true pending, before, after, rfl, fun x there => by simp [SegRecord.isPending, first x there]⟩

theorem issueFirst_append {before after : List SegRecord} {r : SegRecord} (g : Tag) (first : ∀ x ∈ before, x.state ≠ .pending)
    (pending : r.state = .pending) :
    issueFirst g (before ++ r :: after) = before ++ { r with state := .outstanding g } :: after := by
  induction before with
  | nil => simp [issueFirst, SegRecord.isPending, pending]
  | cons x before ih =>
    have notPending : x.isPending = false := decide_eq_false (first x List.mem_cons_self)
    rw [List.cons_append, issueFirst, notPending, ih fun y there => first y (List.mem_cons_of_mem x there)]
    rfl

theorem segmentRemote_eq (d : Descriptor) (offset : Nat) :
    d.segmentRemote offset = if d.remoteMode = .increment then d.remote + BitVec.ofNat 24 offset else d.remote := by
  unfold Descriptor.segmentRemote
  cases d.remoteMode <;> rfl

theorem segmentLocal_eq (d : Descriptor) (offset : Nat) :
    d.segmentLocal offset = if d.localMode = .increment then d.localAddr + BitVec.ofNat 32 offset else d.localAddr := by
  unfold Descriptor.segmentLocal
  cases d.localMode <;> rfl

/-- A tag given to the first PENDING record of a channel, whose waiting flag and records the request alone has written. -/
theorem issueSegment_eq {s : State} {c : ChannelNo} {g : Tag} {before after : List SegRecord} {r : SegRecord} {cut : Nat}
    (first : ∀ x ∈ before, x.state ≠ .pending) (pending : r.state = .pending) :
    (s.setChannel c { s.channel c with waiting := true, records := before ++ r :: after, cutOffset := cut }).issueSegment c g r =
      issuedRequest s c g (before ++ { r with state := .outstanding g } :: after) cut r.offset r.length := by
  unfold State.issueSegment issuedRequest
  dsimp only
  rw [channel_setChannel_self]
  have written : (s.setChannel c { s.channel c with
        waiting := true, records := before ++ r :: after, cutOffset := cut }).modifyChannel c
        (fun ch => { ch with waiting := false, payload := none, records := issueFirst g ch.records }) =
      s.setChannel c { s.channel c with
        waiting := false, payload := none, cutOffset := cut
        records := before ++ { r with state := .outstanding g } :: after } := by
    rw [State.modifyChannel, channel_setChannel_self, setChannel_setChannel, issueFirst_append g first pending]
  rw [written]
  unfold Descriptor.segmentEntry Descriptor.fetchRequest
  rw [segmentRemote_eq, segmentLocal_eq]
  cases direction : (s.channel c).desc.direction with
  | pull => rfl
  | push =>
    rw [State.requestFetch, asks_eq]
    rfl

theorem offerChannel_of_running {s : State} {c : ChannelNo} {r : SegRecord} (running : (s.channel c).state = .running)
    (found : (s.channel c).records.find? SegRecord.isPending = some r) (g : Tag) :
    s.offerChannel c g = if s.peerUsable (s.channel c).desc.peer then s.issueSegment c g r else s.dropOwner (.channel c) := by
  unfold State.offerChannel
  dsimp only
  rw [running, found]

theorem waits_channel_of_not_waiting {s : State} {c : ChannelNo} (idle : (s.channel c).waiting = false) :
    s.waits (.channel c) = false := by
  rw [State.waits, idle, Bool.false_and]

/-- What issuing a segment leaves: the other channels, the slot, the station. -/
theorem issueSegment_others (s : State) (c : ChannelNo) (g : Tag) (r : SegRecord) :
    (∀ d, d ≠ c → (s.issueSegment c g r).channel d = s.channel d) ∧ (s.issueSegment c g r).notices = s.notices ∧
      (s.issueSegment c g r).member = s.member := by
  unfold State.issueSegment
  dsimp only
  cases (s.channel c).desc.direction <;>
    exact ⟨fun d other => channel_setChannel_other s other _, rfl, rfl⟩

theorem slotWaits_congr {s t : State} (notices : t.notices = s.notices) (member : t.member = s.member) :
    t.slotWaits = s.slotWaits := by
  rw [State.slotWaits, State.slotWaits, notices, member]

theorem mayIssue_iff (s : State) (c : ChannelNo) : s.mayIssue c = true ↔ (s.channel c).state = .running ∧
    s.member.state = .online ∧ s.holdDepth = 0 ∧ s.ownsQueued (.channel c) = false ∧
      (s.channel c).outstandingCount < (s.channel c).desc.depth := by
  simp only [State.mayIssue, Bool.and_eq_true, decide_eq_true_eq, Bool.not_eq_true', and_assoc]

theorem wantsTag_of_running {s : State} {c : ChannelNo} (running : (s.channel c).state = .running) :
    s.wantsTag c = (s.mayIssue c && ((s.channel c).records.any SegRecord.isPending || (s.channel c).canCut)) := by
  unfold State.wantsTag
  dsimp only
  rw [running]

theorem canCut_iff (ch : Channel) : ch.canCut = true ↔ ch.cutOffset < ch.desc.length.toNat ∧
    ch.records.length < Config.segmentRecords ∧ ∀ x ∈ ch.records, x.state ≠ .pending ∧ x.state ≠ .backoff 0 := by
  simp only [Channel.canCut, Bool.and_eq_true, decide_eq_true_eq, Bool.not_eq_true', List.any_eq_false, Bool.or_eq_true,
    SegRecord.isPending, SegRecord.isExpired, not_or, and_assoc, ne_eq]

theorem any_isPending_eq_false {l : List SegRecord} (none : ∀ x ∈ l, x.state ≠ .pending) : l.any SegRecord.isPending = false :=
  List.any_eq_false.mpr fun x there => by simp [SegRecord.isPending, none x there]

/-- A running channel that asks with its first PENDING record is given the lowest FREE tag, where no other owner waits. -/
theorem allocateTags_of_segment {s u : State} {c : ChannelNo} {g : Tag} {before after : List SegRecord} {r : SegRecord} {cut : Nat}
    (asked : u = s.setChannel c { s.channel c with waiting := true, records := before ++ r :: after, cutOffset := cut })
    (first : ∀ x ∈ before, x.state ≠ .pending) (pending : r.state = .pending) (running : (s.channel c).state = .running)
    (may : u.mayIssue c = true) (slot : s.slotWaits = false) (alone : ∀ d, d ≠ c → (s.channel d).waiting = false)
    (free : s.lowestFree = some g) (usable : s.peerUsable (s.channel c).desc.peer = true) :
    u.allocateTags = issuedRequest s c g (before ++ { r with state := .outstanding g } :: after) cut r.offset r.length := by
  have self : u.channel c = { s.channel c with waiting := true, records := before ++ r :: after, cutOffset := cut } := by
    rw [asked, channel_setChannel_self]
  have runningU : (u.channel c).state = .running := by rw [self]; exact running
  have found : (u.channel c).records.find? SegRecord.isPending = some r := by rw [self]; exact find_isPending first pending
  have others : ∀ d, d ≠ c → (u.channel d).waiting = false := fun d other => by
    rw [asked, channel_setChannel_other s other]; exact alone d other
  have waits : u.waits (.channel c) = true := by
    have some : (u.channel c).records.any SegRecord.isPending = true := List.any_eq_true.mpr
      ⟨r, by rw [self]; exact List.mem_append_right _ List.mem_cons_self, decide_eq_true pending⟩
    rw [State.waits, wantsTag_of_running runningU, may, some, self]
    rfl
  have offer : offered u (.channel c) g = u.issueSegment c g r := by
    rw [offered, offerChannel_of_running runningU found, if_pos]
    rw [self, asked]
    exact usable
  obtain ⟨channel, notices, member⟩ := issueSegment_others u c g r
  rw [allocateTags_of_one (o := .channel c) (g := g), offer, asked, issueSegment_eq first pending]
  · rw [asked]; exact free
  · exact waits
  · intro p other
    cases p with
    | host => exact (slotWaits_congr (by rw [asked]; rfl) (by rw [asked]; rfl)).trans slot
    | channel d => exact waits_channel_of_not_waiting (others d fun e => other (e ▸ rfl))
  · rw [offer]
    intro p other
    cases p with
    | host => exact ((slotWaits_congr notices member).trans (slotWaits_congr (by rw [asked]; rfl) (by rw [asked]; rfl))).trans slot
    | channel d =>
      have apart : d ≠ c := fun e => other (e ▸ rfl)
      exact waits_channel_of_not_waiting (by rw [channel d apart]; exact others d apart)

theorem filter_isOutstanding_pending {before after : List SegRecord} {r : SegRecord} (pending : r.state = .pending) :
    ((before ++ r :: after).filter SegRecord.isOutstanding).length = ((before ++ after).filter SegRecord.isOutstanding).length := by
  have no : r.isOutstanding = false := by simp [SegRecord.isOutstanding, pending]
  simp [List.filter_append, no]

/-- Settles O28. -/
theorem segmentIssueQueuesARequest : Obligations.SegmentIssueQueuesARequest := by
  intro c g s high online hold ch d running depth noQueued
  have shell := exec_takes (i := .segmentIssue c) (State.segmentIssue c) rfl high
  have may : s.mayIssue c = true := (mayIssue_iff s c).mpr ⟨running, online, hold, noQueued, depth⟩
  refine ⟨fun slot alone free present staying => ⟨fun before after r records first pending => ?_, fun more room clear => ?_⟩,
    fun clear expired => ?_⟩
  · have usable : s.peerUsable d.peer = true := by simp [State.peerUsable, present, staying]
    have some : ch.records.any SegRecord.isPending = true := List.any_eq_true.mpr
      ⟨r, by rw [records]; exact List.mem_append_right _ List.mem_cons_self, decide_eq_true pending⟩
    have wants : s.wantsTag c = true := by
      rw [wantsTag_of_running running, may, some]
      rfl
    have noCut : ch.canCut = false := by
      rw [← Bool.not_eq_true, canCut_iff]
      exact fun ⟨_, _, live⟩ => (live r (by rw [records]; exact List.mem_append_right _ List.mem_cons_self)).1 pending
    have asked : s.askChannel c = s.setChannel c { ch with
        waiting := true, records := before ++ r :: after, cutOffset := ch.cutOffset } := by
      rw [State.askChannel, if_pos wants, State.modifyChannel, if_neg (by rw [show (s.channel c).canCut = false from noCut, Bool.and_false]; decide), ← records]
    rw [shell, State.segmentIssue, if_pos (by rw [running, wants]; rfl),
      allocateTags_of_segment asked first pending running ?_ slot alone free usable]
    rw [asked, mayIssue_iff, channel_setChannel_self]
    refine ⟨running, online, hold, noQueued, ?_⟩
    rw [← records]
    exact depth
  · intro len
    have usable : s.peerUsable d.peer = true := by simp [State.peerUsable, present, staying]
    have cut : ch.canCut = true := (canCut_iff ch).mpr ⟨more, room, clear⟩
    have wants : s.wantsTag c = true := by
      rw [wantsTag_of_running running, may, show (s.channel c).canCut = true from cut, Bool.or_true]
      rfl
    have asked : s.askChannel c = s.setChannel c { ch with
        waiting := true, records := ch.records ++ { state := .pending, offset := ch.cutOffset, length := len } :: []
        cutOffset := ch.cutOffset + len } := by
      rw [State.askChannel, if_pos wants, State.modifyChannel,
        if_pos (by rw [show (s.channel c).canCut = true from cut, running]; rfl)]
      rfl
    rw [shell, State.segmentIssue, if_pos (by rw [running, wants]; rfl),
      allocateTags_of_segment asked (fun x there => (clear x there).1) rfl running ?_ slot alone free usable]
    rw [asked, mayIssue_iff, channel_setChannel_self]
    refine ⟨running, online, hold, noQueued, ?_⟩
    rw [Channel.outstandingCount, filter_isOutstanding_pending rfl, List.append_nil]
    exact depth
  · obtain ⟨x, there, backoff⟩ := expired
    have noCut : (s.channel c).canCut = false := by
      rw [← Bool.not_eq_true, canCut_iff]
      exact fun ⟨_, _, live⟩ => (live x there).2 backoff
    rw [shell, State.segmentIssue, if_neg]
    rw [wantsTag_of_running running, any_isPending_eq_false clear, noCut]
    simp

end Sys2Proof.Proofs
end


section
/-!
Entry to OFFLINE and to CONFLICT written out block by block, and the commands and events that make it: LEAVE in LISTENING, a
duplicate, the clean end of the LEAVE, the fourth garbled send in a row.
-/

set_option Elab.async false

namespace Sys2Proof.Proofs

open Sys2Proof Sys2Proof.Machine Sys2Proof.Safety Sys2Proof.Laws

/-! ## The common part of the two entries, block by block -/

/-- The entry to OFFLINE or CONFLICT ends the channel (R31). -/
def endsWithStation (ch : Channel) : Bool := ch.state = .running || ch.state = .paused || ch.state = .notifying

theorem raiseEnding_eq (s : State) (c : ChannelNo) :
    s.raiseEnding c = s.raiseIf (endsWithStation (s.channel c) && (s.channel c).desc.errIrq) (.chErr c) := by
  unfold State.raiseEnding endsWithStation
  cases state : (s.channel c).state <;> simp [State.raiseIf]

theorem raiseIf_eq (s : State) (p : Bool) (f : EventFlag) : ∃ v, s.raiseIf p f = { s with host := { s.host with latched := v } } ∧
    (p = true → (s.raiseIf p f).flag f = true) ∧ ∀ g, s.flag g = true → (s.raiseIf p f).flag g = true := by
  cases p with
  | true => exact ⟨_, rfl, fun _ => flag_raise_self s f, fun g => flag_raise s f g⟩
  | false => exact ⟨s.host.latched, rfl, fun no => absurd no (by decide), fun _ => id⟩

/-- CH_ERR of the channels that end with the station, on the channels of a list. -/
theorem foldl_raiseEnding_eq (l : List ChannelNo) (s : State) :
    ∃ v, l.foldl State.raiseEnding s = { s with host := { s.host with latched := v } } ∧
      (∀ c ∈ l, endsWithStation (s.channel c) = true → (s.channel c).desc.errIrq = true →
        (l.foldl State.raiseEnding s).flag (.chErr c) = true) ∧
      ∀ g, s.flag g = true → (l.foldl State.raiseEnding s).flag g = true := by
  induction l generalizing s with
  | nil => exact ⟨s.host.latched, rfl, fun c there => absurd there List.not_mem_nil, fun _ => id⟩
  | cons c l ih =>
    obtain ⟨v, eq, raised, keeps⟩ := raiseIf_eq s (endsWithStation (s.channel c) && (s.channel c).desc.errIrq) (.chErr c)
    rw [← raiseEnding_eq] at eq raised keeps
    have channel : ∀ d, (s.raiseEnding c).channel d = s.channel d := fun d => by rw [eq]; rfl
    obtain ⟨w, eqs, raises, kept⟩ := ih (s.raiseEnding c)
    rw [List.foldl_cons]
    refine ⟨w, by rw [eqs, eq], fun d there ends enabled => ?_, fun g set => kept g (keeps g set)⟩
    rcases List.mem_cons.mp there with first | later
    · subst first
      exact kept _ (raised (by rw [ends, enabled]; rfl))
    · exact raises d later (by rwa [channel]) (by rwa [channel])

/-- The Host Notice Slot after the entry (R101). -/
def Slot.lost (x : Slot) : Slot :=
  if x.state.isSending then { x with state := .done, result := .peerLost, reason := none } else x

theorem slotLost_eq (s : State) : ∃ v, slotLost s = { s with
      notices := { s.notices with slot := Slot.lost s.notices.slot }, host := { s.host with latched := v } } ∧
    (s.notices.slot.state.isSending = true → (slotLost s).flag .hostNoticeDone = true) ∧
    ∀ g, s.flag g = true → (slotLost s).flag g = true := by
  unfold slotLost Slot.lost
  cases state : s.notices.slot.state with
  | sending p => exact ⟨_, rfl, fun _ => flag_raise_self _ _, fun g set => flag_raise _ _ g set⟩
  | idle => exact ⟨_, rfl, fun no => absurd no (by decide), fun _ => id⟩
  | done => exact ⟨_, rfl, fun no => absurd no (by decide), fun _ => id⟩

theorem endedChannels_host (s : State) (code : TermCode) :
    (emptiedBlocks (endedChannels code s)).host = (allChannels.foldl State.raiseEnding s.silence).host := by
  unfold endedChannels
  generalize allChannels.foldl State.raiseEnding s.silence = q
  rfl

/-- What `quiesce` writes: every block but the roster, the settings, the Window Table and the Notice Queue. -/
theorem quiesce_blocks (s : State) (code : TermCode) : ∃ (l : LinkUnit) (r : Receiver) (v : Word),
    s.quiesce code = { s with
      link := l, rx := r, host := { s.host with latched := v }
      channels := mapTable (Channel.stationEnds code) s.channels
      tracker := { entries := mapTable Entry.freed s.tracker.entries, queued := [] }
      inbound := { s.inbound with queue := [], responses := [], dataSlot := none, engine := .idle }
      port := s.port.withdrawAll
      notices := { s.notices with slot := Slot.lost s.notices.slot }
      member := { s.member with listen := none, heartbeat := .stopped, drain := none, control := [] } } ∧
    l.unit = .waiting ∧ l.garble = s.link.garble ∧ r.buffer = [] ∧
    (∀ c, endsWithStation (s.channel c) = true → (s.channel c).desc.errIrq = true →
      (s.quiesce code).flag (.chErr c) = true) ∧
    (s.notices.slot.state.isSending = true → (s.quiesce code).flag .hostNoticeDone = true) := by
  obtain ⟨l, r, silent, unit, garble, -⟩ := silence_eq s
  obtain ⟨v, raised, errors, -⟩ := foldl_raiseEnding_eq allChannels s.silence
  obtain ⟨w, lost, told, keeps⟩ := slotLost_eq (emptiedBlocks (endedChannels code s))
  have flagged : ∀ f, (allChannels.foldl State.raiseEnding s.silence).flag f = true → (s.quiesce code).flag f = true := by
    intro f set
    rw [quiesce_eq]
    refine keeps f ?_
    rw [State.flag, endedChannels_host]
    exact set
  have ended : endedChannels code s = { s with
      link := l, rx := r, host := { s.host with latched := v }, channels := mapTable (Channel.stationEnds code) s.channels } := by
    rw [endedChannels, raised, silent]
    rfl
  have channel : ∀ c, s.silence.channel c = s.channel c := fun c => by rw [silent]; rfl
  refine ⟨l, { r with buffer := [] }, w, ?_, unit, garble, rfl, fun c ends enabled => ?_, fun sending => ?_⟩
  · rw [quiesce_eq, lost, ended]
    rfl
  · exact flagged _ (errors c (mem_allChannels c) (by rwa [channel]) (by rwa [channel]))
  · rw [quiesce_eq]
    exact told (by rw [ended]; exact sending)

/-- What the entry reads of a state, but the unit it silences. -/
structure Alike (s u : State) : Prop where
  channels : u.channels = s.channels
  notices : u.notices = s.notices
  windows : u.inbound.windows = s.inbound.windows
  port : u.port = s.port
  number : u.member.number = s.member.number
  tResp : u.member.tResp = s.member.tResp
  tHb : u.member.tHb = s.member.tHb

theorem Alike.refl (s : State) : Alike s s := ⟨rfl, rfl, rfl, rfl, rfl, rfl, rfl⟩

theorem flag_setStation (q : State) (st : StationState) (cause : ConflictCause) (l : LinkUnit) :
    State.flag { q.setStation st cause with link := l } .stationState = true ∧
      ∀ f, q.flag f = true → State.flag { q.setStation st cause with link := l } f = true :=
  ⟨flag_raise_self { q with member := { q.member with state := st, cause := cause } } .stationState, fun f set =>
    flag_raise { q with member := { q.member with state := st, cause := cause } } .stationState f set⟩

/-- The entry to OFFLINE or CONFLICT, whatever its garble count is after it. -/
theorem quiesced_of_entry {s u : State} (alike : Alike s u) (code : TermCode) (st : StationState) (cause : ConflictCause)
    {l : LinkUnit} (unit : l.unit = .waiting) :
    Quiesced code s { (u.quiesce code).setStation st cause with link := l } := by
  obtain ⟨l₀, r, v, eq, -, -, buffer, errors, told⟩ := quiesce_blocks u code
  obtain ⟨raised, keeps⟩ := flag_setStation (u.quiesce code) st cause l
  obtain ⟨channels, notices, windows, ports, number, tResp, tHb⟩ := alike
  have same : ∀ c, u.channel c = s.channel c := channel_congr channels
  generalize u.quiesce code = q at eq errors told keeps raised
  have channel : ∀ c, State.channel { q.setStation st cause with link := l } c = (s.channel c).stationEnds code := fun c => by
    rw [eq, ← same]
    exact mapTable_get _ _ c
  have entry : ∀ g, State.entry { q.setStation st cause with link := l } g = (u.entry g).freed := fun g => by
    rw [eq]
    exact mapTable_get _ _ g
  have port : (State.setStation q st cause).port = s.port.withdrawAll := by rw [eq, ← ports]; rfl
  refine ⟨fun c => ?_, fun g => ?_, by rw [eq]; rfl, by rw [eq]; rfl, by rw [eq]; rfl, by rw [eq]; rfl, by rw [eq]; rfl,
    by rw [eq]; exact windows, by rw [eq]; exact buffer, by rw [eq, ← notices]; rfl, by rw [eq, ← notices]; rfl, ?_,
    by rw [eq]; rfl, by rw [eq]; rfl, by rw [eq]; rfl, by rw [eq]; rfl, by rw [eq]; exact number, by rw [eq]; exact tResp,
    by rw [eq]; exact tHb, unit, raised, by rw [eq]; rfl, by rw [eq]; rfl, by rw [eq]; rfl, fun b burst => ?_⟩
  · rw [channel]
    cases state : (s.channel c).state with
    | off => simp [Channel.stationEnds, state]
    | armed => simp [Channel.stationEnds, state]
    | running =>
      exact ⟨by simp [Channel.stationEnds, state, Channel.ended], fun enabled =>
        keeps _ (errors c (by simp [endsWithStation, same, state]) (by rwa [same]))⟩
    | paused =>
      exact ⟨by simp [Channel.stationEnds, state, Channel.ended], fun enabled =>
        keeps _ (errors c (by simp [endsWithStation, same, state]) (by rwa [same]))⟩
    | notifying =>
      exact ⟨by simp [Channel.stationEnds, state, Channel.ended], fun enabled =>
        keeps _ (errors c (by simp [endsWithStation, same, state]) (by rwa [same]))⟩
  · rw [entry]
    exact ⟨rfl, rfl, rfl, rfl, rfl⟩
  · have slot : (State.setStation q st cause).notices.slot = Slot.lost s.notices.slot := by rw [eq, ← notices]; rfl
    cases state : s.notices.slot.state with
    | sending p =>
      refine ⟨?_, keeps _ (told (by rw [notices, state]; rfl))⟩
      change (State.setStation q st cause).notices.slot = _
      rw [slot, Slot.lost, state]
      rfl
    | idle => exact slot.trans (by rw [Slot.lost, state, if_neg (by decide)])
    | done => exact slot.trans (by rw [Slot.lost, state, if_neg (by decide)])
  · change (State.setStation q st cause).port.state = _
    rw [port, Port.withdrawAll, burst]

theorem quiesced_offline {s u : State} (alike : Alike s u) : Quiesced .left s u.enterOffline := by
  have h := quiesced_of_entry alike .left .offline .none (l := { (u.quiesce .left).link with garble := 0 })
    (quiesce_link u .left).1
  unfold State.enterOffline
  generalize u.quiesce .left = q at h ⊢
  exact h

theorem quiesced_conflict {s u : State} (alike : Alike s u) (cause : ConflictCause) :
    Quiesced .conflict s (u.enterConflict cause) := by
  have h := quiesced_of_entry alike .conflict .conflict cause (l := (u.quiesce .conflict).link) (quiesce_link u .conflict).1
  unfold State.enterConflict
  generalize u.quiesce .conflict = q at h ⊢
  exact h

/-- What both entries leave of the rest of the station. -/
theorem enterOffline_keeps (s : State) : s.enterOffline.member.state = .offline ∧ s.enterOffline.member.cause = .none ∧
    s.enterOffline.link.garble = 0 ∧ s.enterOffline.member.roster = s.member.roster ∧ s.enterOffline.holdDepth = s.holdDepth ∧
    s.enterOffline.host.refusal = s.host.refusal ∧ s.enterOffline.host.enables = s.host.enables ∧
    s.enterOffline.ramWrites = s.ramWrites := by
  obtain ⟨l, r, v, eq, -⟩ := quiesce_blocks s .left
  unfold State.enterOffline
  generalize s.quiesce .left = q at eq
  rw [eq]
  exact ⟨rfl, rfl, rfl, rfl, rfl, rfl, rfl, rfl⟩

theorem enterConflict_keeps (s : State) (cause : ConflictCause) : (s.enterConflict cause).member.state = .conflict ∧
    (s.enterConflict cause).member.cause = cause ∧ (s.enterConflict cause).link.garble = s.link.garble ∧
    (s.enterConflict cause).member.roster = s.member.roster := by
  obtain ⟨l, r, v, eq, -, garble, -⟩ := quiesce_blocks s .conflict
  unfold State.enterConflict
  generalize s.quiesce .conflict = q at eq
  rw [eq]
  exact ⟨rfl, rfl, garble, rfl⟩

/-! ## LEAVE in LISTENING -/

/-- Settles O8. -/
theorem leaveInListeningGoesOffline : Obligations.LeaveInListeningGoesOffline := by
  intro op s high listening
  have eq : exec (.leave op) s = .next s.enterOffline := by
    rw [exec_takes (i := .leave op) (State.leave op) rfl high, State.leave, listening]
  obtain ⟨state, cause, garble, roster, hold, refusal, enables, ram⟩ := enterOffline_keeps s
  exact ⟨_, eq, state, cause, quiesced_offline (.refl s), garble, roster, hold, refusal, enables, ram⟩

/-! ## Settling where nothing is due -/

theorem startIfDue_of_not_due {s : State} {c : ChannelNo} (due : s.startDue c = false) : s.startIfDue c = s := by
  rw [State.startIfDue, if_neg (by rw [due]; decide)]

theorem engineTake_of_nothing {s : State} (nothing : s.inbound.engine = .idle → s.inbound.queue = []) : s.engineTake = s := by
  unfold State.engineTake
  split
  · next idle head => rw [nothing idle] at head; cases head
  · rfl

theorem settleOnce_of_nothing {s : State} (starts : ∀ c, s.startDue c = false)
    (nothing : s.inbound.engine = .idle → s.inbound.queue = []) : s.settleOnce = s := by
  rw [State.settleOnce, State.startChannels, List.foldl_fixed' fun c => startIfDue_of_not_due (starts c),
    engineTake_of_nothing nothing]

theorem askChannel_of_quiet {s : State} {c : ChannelNo} (wants : s.wantsTag c = false) (waiting : (s.channel c).waiting = false) :
    s.askChannel c = s := by
  rw [State.askChannel, if_neg (by rw [wants]; decide), modifyChannel_same]
  rw [← waiting]

theorem unusableOwners_of_none_waits {s : State} (idle : ∀ o, s.waits o = false) (n : Nat) (l : List Owner) :
    s.unusableOwners n l = [] := by
  refine List.eq_nil_iff_forall_not_mem.mpr fun o there => ?_
  have waits := (waits_of_mem_unusableOwners s there).1
  rw [idle o] at waits
  cases waits

theorem waits_of_nothing {s : State} (waiting : ∀ c, (s.channel c).waiting = false) (slot : s.slotWaits = false) (o : Owner) :
    s.waits o = false := by
  cases o with
  | channel c => exact waits_channel_of_not_waiting (waiting c)
  | host => exact slot

theorem checkDrain_of_not_done {s : State} (open_ : s.drainDone = false) : s.checkDrain = s := by
  rw [State.checkDrain, if_neg (by rw [open_]; decide)]

theorem contains_self {l : List (ChannelNo × BurstRequest)} {x : ChannelNo × BurstRequest} (there : x ∈ l) :
    l.contains x = true := by
  simpa using there

theorem orderFetches_self (l : List (ChannelNo × BurstRequest)) : orderFetches l l = l := by
  have made : (l.filter fun x => !l.contains x) = [] := List.filter_eq_nil_iff.mpr fun x there => by
    rw [contains_self there]
    decide
  unfold orderFetches
  dsimp only
  rw [made, List.filter_eq_self.mpr fun x there => contains_self there]
  simp

/-- Where nothing is due, settling changes nothing. -/
theorem settle_of_nothingDue {s : State} (nothing : NothingDue s) : s.settle = s := by
  obtain ⟨channels, slot, dispatch, drain, engine⟩ := nothing
  have idle : ∀ o, s.waits o = false := waits_of_nothing (fun c => (channels c).2.2) slot
  have once : s.settleOnce = s := settleOnce_of_nothing (fun c => (channels c).1) engine
  have asks : s.askOwners = s := by
    rw [State.askOwners, State.askChannels,
      List.foldl_fixed' fun c => askChannel_of_quiet (channels c).2.1 (channels c).2.2, State.dropUnusable,
      unusableOwners_of_none_waits idle]
    rfl
  have tags : s.settleTags = s := by
    rw [State.settleTags, State.allocateTags, foldl_grantTag_of_none fun o _ => idle o, checkDrain_of_not_done drain]
  have rounds : ∀ n, State.settleN n s = s := fun n => by
    cases n with
    | zero => rw [State.settleN, once, asks, tags]
    | succ n =>
      rw [State.settleN]
      dsimp only
      rw [once, if_neg (by rw [dispatch]; decide), asks, if_neg (by rw [dispatch]; decide), tags]
  rw [State.settle, State.settleFrom, rounds, State.orderFetches, orderFetches_self]

/-- After the entry nothing is due. -/
theorem nothingDue_of_quiesced {code : TermCode} {s t : State} (quiesced : Quiesced code s t)
    (outside : t.member.state = .offline ∨ t.member.state = .conflict) : NothingDue t := by
  obtain ⟨channels, -, -, queue, -, -, -, -, buffer, -, -, -⟩ := quiesced
  have quiet : ∀ c, (t.channel c).waiting = false ∧ ((t.channel c).state = .off ∨ (t.channel c).state = .armed) := fun c => by
    have ch := channels c
    cases state : (s.channel c).state with
    | off => rw [state] at ch; rw [show t.channel c = _ from ch]; exact ⟨rfl, .inl state⟩
    | armed => rw [state] at ch; rw [show t.channel c = _ from ch]; exact ⟨rfl, .inr state⟩
    | running => rw [state] at ch; rw [show t.channel c = _ from ch.1]; exact ⟨rfl, .inl rfl⟩
    | paused => rw [state] at ch; rw [show t.channel c = _ from ch.1]; exact ⟨rfl, .inl rfl⟩
    | notifying => rw [state] at ch; rw [show t.channel c = _ from ch.1]; exact ⟨rfl, .inl rfl⟩
  have notOnline : t.member.state ≠ .online := by rcases outside with h | h <;> rw [h] <;> decide
  have notLeaving : t.member.state ≠ .leaving := by rcases outside with h | h <;> rw [h] <;> decide
  refine ⟨fun c => ⟨?_, ?_, (quiet c).1⟩, ?_, ?_, ?_, fun _ => queue⟩
  · simp [State.startDue, notOnline]
  · rcases (quiet c).2 with state | state <;> simp [State.wantsTag, state]
  · simp [State.slotWaits, notOnline, notLeaving]
  · simp [State.dispatchDue, buffer]
  · simp [State.drainDone, notLeaving]

/-! ## What settling keeps of the station -/

section
variable {s t : State}

theorem Inside.member (h : Inside s t) : t.member = s.member := by
  refine h.keeps (P := fun u => u.member = s.member) (fun u v w hu => ?_) (fun u v w hu => ?_) rfl
  · cases w <;> exact hu
  · cases w with
    | queue => exact hu

theorem Inside.garble (h : Inside s t) : t.link.garble = s.link.garble := by
  refine h.keeps (P := fun u => u.link.garble = s.link.garble) (fun u v w hu => ?_) (fun u v w hu => ?_) rfl
  · cases w with
    | link l same => exact same.trans hu
    | _ => exact hu
  · cases w with
    | queue => exact hu

theorem Inside.badFrame (h : Inside s t) : t.rx.badFrame = s.rx.badFrame := by
  refine h.keeps (P := fun u => u.rx.badFrame = s.rx.badFrame) (fun u v w hu => ?_) (fun u v w hu => ?_) rfl
  · cases w with
    | rx r _ same => exact same.trans hu
    | _ => exact hu
  · cases w with
    | queue => exact hu

end

/-- Out of LEAVING, settling leaves the Membership Unit as it is. -/
theorem settleFrom_member {s : State} (stays : s.member.state ≠ .leaving) (old : List (ChannelNo × BurstRequest)) :
    (s.settleFrom old).member = s.member := by
  obtain ⟨u, inside, eq⟩ := settleFrom_eq s old
  have member := inside.member
  rw [eq, checkDrain_of_not_done]
  · exact member
  · simp [State.drainDone, member, stays]

theorem checkDrain_link (s : State) : s.checkDrain.link = s.link := by unfold State.checkDrain; split <;> rfl

theorem settleFrom_garble (s : State) (old : List (ChannelNo × BurstRequest)) :
    (s.settleFrom old).link.garble = s.link.garble := by
  obtain ⟨u, inside, eq⟩ := settleFrom_eq s old
  rw [eq, ← inside.garble, ← checkDrain_link u]
  rfl

theorem settleFrom_badFrame (s : State) (old : List (ChannelNo × BurstRequest)) :
    (s.settleFrom old).rx.badFrame = s.rx.badFrame := by
  obtain ⟨u, inside, eq⟩ := settleFrom_eq s old
  rw [eq, ← inside.badFrame, ← checkDrain_rx u]
  rfl

/-! ## Judged frames -/

/-- The receiver has judged a transmission (R153). -/
def judged (s : State) : State := { s with rx := { s.rx with state := .skipping, inProgress := none } }

theorem frameJudged_of_framing {s : State} (framing : s.rx.state = .framing) (own : s.rx.ownMark = false) (claim : BitVec 7)
    (bytes : List Byte) : State.frameJudged claim bytes s = s.judge claim bytes := by
  rw [State.frameJudged, if_pos (by rw [framing, own]; rfl)]

theorem judge_of_valid {s : State} {claim : BitVec 7} {bytes : List Byte} {f : Frame} (valid : judgeFrame claim bytes = some f) :
    s.judge claim bytes = ((judged s).validFrame f).settle := by
  unfold State.judge
  dsimp only
  rw [valid]
  rfl

theorem judge_of_bad {s : State} {claim : BitVec 7} {bytes : List Byte} (bad : judgeFrame claim bytes = none) :
    s.judge claim bytes = (judged s).countBadFrame := by
  unfold State.judge
  dsimp only
  rw [bad]
  rfl

theorem validFrame_of_joined {s : State} {f : Frame} (own : f.src = s.member.number)
    (joined : s.member.state = .listening ∨ s.member.state = .online ∨ s.member.state = .leaving) :
    s.validFrame f = s.enterConflict .duplicate := by
  rw [State.validFrame, if_pos own]
  rcases joined with h | h | h <;> rw [h]

theorem validFrame_of_outside {s : State} {f : Frame} (own : f.src = s.member.number)
    (outside : s.member.state = .offline ∨ s.member.state = .conflict) : s.validFrame f = s := by
  rw [State.validFrame, if_pos own]
  rcases outside with h | h <;> rw [h]

theorem settle_enterConflict (s : State) (cause : ConflictCause) : (s.enterConflict cause).settle = s.enterConflict cause :=
  settle_of_nothingDue (nothingDue_of_quiesced (quiesced_conflict (.refl s) cause) (.inr (enterConflict_keeps s cause).1))

theorem settle_enterOffline (s : State) : s.enterOffline.settle = s.enterOffline :=
  settle_of_nothingDue (nothingDue_of_quiesced (quiesced_offline (.refl s)) (.inl (enterOffline_keeps s).1))

/-- Settles O36. -/
theorem badFramesAndDuplicates : Obligations.BadFramesAndDuplicates := by
  refine ⟨fun claim bytes s high => ⟨fun framing own bad => ?_, fun other => ?_⟩,
    fun claim bytes f s high framing own valid duplicate => ?_⟩
  · rw [exec_takes (i := .frameJudged claim bytes) (State.frameJudged claim bytes) rfl high, frameJudged_of_framing framing own,
      judge_of_bad bad, State.countBadFrame, saturatingSucc_eq]
    rfl
  · rw [exec_takes (i := .frameJudged claim bytes) (State.frameJudged claim bytes) rfl high, State.frameJudged, if_neg]
    rcases other with h | h <;> simp [h]
  · have shell : exec (.frameJudged claim bytes) s = .next ((judged s).validFrame f).settle := by
      rw [exec_takes (i := .frameJudged claim bytes) (State.frameJudged claim bytes) rfl high, frameJudged_of_framing framing own,
        judge_of_valid valid]
    refine ⟨fun joined => ?_, fun outside => ?_, fun outside nothing => ?_⟩
    · rw [validFrame_of_joined (s := judged s) duplicate joined, settle_enterConflict] at shell
      obtain ⟨state, cause, -, roster⟩ := enterConflict_keeps (judged s) .duplicate
      have quiesced := quiesced_conflict (s := s) (u := judged s) ⟨rfl, rfl, rfl, rfl, rfl, rfl, rfl⟩ .duplicate
      exact ⟨_, shell, state, cause, quiesced, roster⟩
    · rw [validFrame_of_outside (s := judged s) duplicate outside] at shell
      obtain ⟨-, -, -, state, -, roster, -⟩ := settleFrom_same (judged s) (judged s).port.fetches
      exact ⟨_, shell, state, roster, settleFrom_badFrame (judged s) _⟩
    · rw [validFrame_of_outside (s := judged s) duplicate outside] at shell
      have still : NothingDue (judged s) := nothing
      rw [shell, settle_of_nothingDue still]
      rfl

/-! ## Clean ends that change the station -/

theorem settleFrom_station {s : State} (old : List (ChannelNo × BurstRequest)) :
    (s.settleFrom old).inbound.windows = s.inbound.windows :=
  (settleFrom_same s old).2.2.2.2.2.2.1

/-- Settles O44. -/
theorem cleanEndsChangeTheStation : Obligations.CleanEndsChangeTheStation := by
  intro s high sending
  have shell := exec_sendCleanEnd high sending
  have clean := cleanEnd_eq (s := s) (f := .control) (l := s.link) rfl
  refine ⟨fun listening control => ?_, fun leaving control => ?_⟩
  · obtain ⟨u, hu⟩ : ∃ u, u = (cleanEnd .control s).producerSent .control := ⟨_, rfl⟩
    rw [← hu] at shell
    rw [clean, State.producerSent, State.controlSent] at hu
    simp only [control, List.filter_cons] at hu
    have online : u.member.state = .online := by rw [hu]; rfl
    have member : u.settle.member = u.member := settleFrom_member (by rw [online]; decide) _
    refine ⟨_, shell, ?_⟩
    rw [member, online]
    refine ⟨rfl, by rw [hu]; rfl, settleFrom_flag _ _ ?_, by rw [hu]; rfl, by rw [hu]; rfl, by rw [hu]; rfl,
      (settleFrom_garble u _).trans (by rw [hu]; rfl), by rw [hu]; rfl, by rw [hu]; rfl, by rw [hu]; rfl, by rw [hu]; rfl,
      (settleFrom_station _).trans (by rw [hu]; rfl)⟩
    rw [hu]
    exact flag_raise_self _ _
  · have sent : ∃ v, (cleanEnd .control s).producerSent .control = v.enterOffline ∧ Alike s v ∧
        v.member.roster = s.member.roster := by
      refine ⟨(cleanEnd .control s).setControl [], ?_, ?_, ?_⟩
      · rw [clean, State.producerSent, State.controlSent]
        simp only [control, List.filter_cons]
        rfl
      · rw [clean]
        exact ⟨rfl, rfl, rfl, rfl, rfl, rfl, rfl⟩
      · rw [clean]
        rfl
    obtain ⟨v, eq, alike, roster⟩ := sent
    rw [eq, settle_enterOffline] at shell
    obtain ⟨state, cause, garble, kept, -⟩ := enterOffline_keeps v
    exact ⟨_, shell, state, cause, quiesced_offline alike, garble, kept.trans roster⟩

/-! ## Garbled sends -/

/-- The receiver after a garbled end: it skips the rest of a send, and goes on framing a claim. -/
def garbledRx (s : State) (f : FrameRef) : Receiver :=
  if s.link.unit = .sending f ∧ s.rx.state = .framing then { s.rx with state := .skipping, inProgress := none } else s.rx

theorem sendGarbled_eq {s : State} {f : FrameRef} {l : LinkUnit} (driving : s.link.unit = .sending f ∨ s.link.unit = .claiming f)
    (after : s.afterSend f = { s with link := l }) :
    s.sendGarbled = State.garbledEnd { s with link := { l with unit := .waiting, idle := 0 }, rx := garbledRx s f } f := by
  unfold State.sendGarbled garbledRx
  rcases driving with unit | unit
  · rw [unit]
    dsimp only
    rw [after, State.stopDriving, rxSkip_eq]
    dsimp only
    congr 2
    by_cases framing : s.rx.state = .framing <;> simp [framing]
  · rw [unit]
    dsimp only
    rw [after, if_neg (fun no => by cases no.1)]
    rfl

theorem garbledEnd_of_below {s : State} (f : FrameRef) (below : s.link.garble < 3) :
    s.garbledEnd f = State.producerGarbled { s with link := { s.link with garble := s.link.garble + 1 } } f := by
  unfold State.garbledEnd
  dsimp only
  rw [producerGarbled_link, if_neg]
  exact Nat.not_le.mpr (Nat.succ_lt_succ below)

theorem producerGarbled_alike (s : State) (f : FrameRef) :
    Alike s (s.producerGarbled f) ∧ (s.producerGarbled f).member.roster = s.member.roster := by
  have mark : Alike s (s.setSending f false) ∧ (s.setSending f false).member.roster = s.member.roster := by
    unfold State.setSending
    split
    · exact ⟨⟨rfl, rfl, rfl, rfl, rfl, rfl, rfl⟩, rfl⟩
    · exact ⟨⟨rfl, rfl, rfl, rfl, rfl, rfl, rfl⟩, rfl⟩
    · exact ⟨⟨rfl, rfl, rfl, rfl, rfl, rfl, rfl⟩, rfl⟩
    · split <;> exact ⟨⟨rfl, rfl, rfl, rfl, rfl, rfl, rfl⟩, rfl⟩
  unfold State.producerGarbled
  generalize s.setSending f false = u at mark
  obtain ⟨⟨channels, notices, windows, port, number, tResp, tHb⟩, roster⟩ := mark
  have kept : Alike s u ∧ u.member.roster = s.member.roster := ⟨⟨channels, notices, windows, port, number, tResp, tHb⟩, roster⟩
  cases f with
  | control =>
    dsimp only
    split
    · split
      · split
        · exact ⟨⟨channels, notices, windows, port, number, tResp, tHb⟩, roster⟩
        · exact kept
      · exact kept
    · exact kept
  | _ => exact kept

theorem producerGarbled_of_other {s : State} {f : FrameRef} (other : f ≠ .control) :
    s.producerGarbled f = s.setSending f false := by
  cases f with
  | control => exact absurd rfl other
  | _ => rfl

theorem helloOnline_iff (k : ControlKind) : k.helloOnline = true ↔ ∃ b, k = .hello .online b := by
  cases k with
  | hello st b => cases st <;> simp [ControlKind.helloOnline]
  | _ => simp [ControlKind.helloOnline]

theorem producerGarbled_control {s : State} {x : ControlFrame} {rest : List ControlFrame} (head : s.member.control = x :: rest) :
    s.producerGarbled .control = s.setControl
      (if s.member.state = .leaving ∧ x.kind.helloOnline = true then rest else { x with sending := false } :: rest) := by
  unfold State.producerGarbled
  dsimp only
  rw [setSending_control head]
  dsimp only
  by_cases leaving : s.member.state = .leaving <;> by_cases online : x.kind.helloOnline = true <;>
    simp [leaving, online, State.setControl]

/-- The fourth garbled send in a row enters CONFLICT (R143). -/
theorem sendGarbled_of_limit {s : State} {f : FrameRef} (driving : s.link.unit = .sending f ∨ s.link.unit = .claiming f)
    (limit : 3 ≤ s.link.garble) : ∃ u, s.sendGarbled = u.enterConflict .garbled ∧ Alike s u ∧
      u.link.garble = s.link.garble + 1 ∧ u.member.roster = s.member.roster := by
  obtain ⟨k, after, -, garble, -⟩ := afterSend_eq s f
  obtain ⟨v, hv⟩ : ∃ v : State, v = { s with link := { k with unit := .waiting, idle := 0 }, rx := garbledRx s f } := ⟨_, rfl⟩
  obtain ⟨⟨channels, notices, windows, port, number, tResp, tHb⟩, roster⟩ := producerGarbled_alike v f
  have count : v.link.garble = s.link.garble := by rw [hv]; exact garble
  rw [sendGarbled_eq driving after, ← hv, garbledEnd_of_limit v f (by rw [count]; exact Nat.succ_le_succ limit)]
  refine ⟨_, rfl, ⟨channels.trans ?_, notices.trans ?_, windows.trans ?_, port.trans ?_, number.trans ?_, tResp.trans ?_,
    tHb.trans ?_⟩, congrArg (· + 1) count, roster.trans ?_⟩ <;> rw [hv]

/-- Settles O45. -/
theorem garbledSends : Obligations.GarbledSends := by
  refine ⟨fun f s high driving => ?_, fun s high => ⟨fun waiting => ?_, fun none => ?_⟩⟩
  · intro l rx
    have shell := exec_takes (i := .sendGarbled) State.sendGarbled rfl high
    have below : ∀ {k : LinkUnit}, s.afterSend f = { s with link := k } → k.garble = s.link.garble → s.link.garble < 3 →
        exec .sendGarbled s = .next (State.producerGarbled { s with
          link := { k with unit := .waiting, idle := 0, garble := s.link.garble + 1 }, rx := rx } f) := by
      intro k after same few
      rw [shell, sendGarbled_eq driving after, garbledEnd_of_below f (by change k.garble < 3; rwa [same])]
      dsimp only
      rw [same]
      rfl
    refine ⟨fun few => ⟨?_, ?_, ?_, ?_, ?_⟩, fun limit => ?_⟩
    · intro g c is queued owner request
      subst is
      rw [below (afterSend_request owner request) (by unfold LinkUnit.requested; split <;> rfl) few, producerGarbled_of_other (f := .entry g) nofun,
        setSending_entry (s := { s with link := _, rx := rx }) queued]
      unfold LinkUnit.requested
      by_cases high : (s.channel c).desc.priority = .high
      · rw [if_pos high, if_pos high]
        rfl
      · rw [if_neg high, if_neg high]
        rfl
    · intro g is queued notice
      subst is
      rw [below (afterSend_notice notice) rfl few, producerGarbled_of_other (f := .entry g) nofun,
        setSending_entry (s := { s with link := _, rx := rx }) queued]
      rfl
    · intro r rest is head
      subst is
      rw [below (k := s.link) rfl rfl few, producerGarbled_of_other (f := .response) nofun, setSending_response (s := { s with link := _, rx := rx }) head]
    · intro d is slot
      subst is
      rw [below (k := s.link) rfl rfl few, producerGarbled_of_other (f := .dataSlot) nofun, setSending_dataSlot (s := { s with link := _, rx := rx }) slot]
    · intro x rest is head
      subst is
      rw [below (k := s.link) rfl rfl few, producerGarbled_control (s := { s with link := _, rx := rx }) head]
      refine ⟨fun online leaving => ?_, fun other => ?_⟩
      · rw [if_pos ⟨leaving, (helloOnline_iff _).mpr online⟩]
        rfl
      · rw [if_neg]
        · rfl
        · rintro ⟨leaving, online⟩
          obtain ⟨b, kind⟩ := (helloOnline_iff _).mp online
          rcases other with no | no
          · exact no b kind
          · exact no leaving
    · obtain ⟨u, eq, alike, garble, roster⟩ := sendGarbled_of_limit driving limit
      obtain ⟨state, cause, count, kept⟩ := enterConflict_keeps u .garbled
      exact ⟨_, by rw [shell, eq], state, cause, quiesced_conflict alike _, count.trans garble, kept.trans roster⟩
  · rw [exec_takes (i := .sendGarbled) State.sendGarbled rfl high, State.sendGarbled, waiting]
  · rw [exec_takes (i := .sendCleanEnd) State.sendCleanEnd rfl high, State.sendCleanEnd]
    split
    · next f sending => exact absurd sending (none f)
    · rfl

end Sys2Proof.Proofs
end


section
/-!
An error end of a channel said exactly, and what the station's own work inside a step leaves alone when no frame but a control
frame waits to be dispatched: the Inbound Service but for its next head, abandoned entries, the Notice Queue.
-/

set_option Elab.async false

namespace Sys2Proof.Proofs

open Sys2Proof Sys2Proof.Machine Sys2Proof.Safety Sys2Proof.Laws

/-! ## The end of a channel (R23, R27) -/

section
variable (s : State) (c : ChannelNo) (k : TermCode) (r : Option RefuseReason)

@[simp] theorem raiseIf_entry (p : Bool) (f : EventFlag) (g : Tag) : (s.raiseIf p f).entry g = s.entry g := by
  unfold State.raiseIf; split <;> rfl

@[simp] theorem modifyChannel_entry (f : Channel → Channel) (g : Tag) : (s.modifyChannel c f).entry g = s.entry g := rfl

theorem endChannel_entry (g : Tag) : (s.endChannel c k r).entry g =
    if (s.entry g).owner = .channel c then releasedEntry (s.entry g) else s.entry g := by
  rw [endChannel_eq, raiseIf_entry, modifyChannel_entry, releaseOwner_entry]

theorem endChannel_channel_self : (s.endChannel c k r).channel c = (s.channel c).ended k r := by
  rw [endChannel_eq, raiseIf_channel, channel_modifyChannel_self]
  rcases releaseOwner_channel s (.channel c) c with h | h <;> rw [h]
  rfl

theorem releasedEntry_not_held (e : Entry) : (releasedEntry e).state ≠ .queued ∧ (releasedEntry e).state ≠ .live := by
  unfold releasedEntry
  cases state : e.state <;> simp [Entry.freed, Entry.abandon, state]

theorem releasedEntry_owner (e : Entry) : (releasedEntry e).owner = e.owner := by
  unfold releasedEntry
  cases e.state <;> rfl

theorem ownsNone_endChannel : OwnsNone (s.endChannel c k r) c := by
  intro g
  rw [endChannel_entry]
  split
  · exact fun _ => releasedEntry_not_held _
  · next other => exact fun owner => absurd owner other

theorem endChannel_flag (enabled : (s.channel c).desc.errIrq = true) : (s.endChannel c k r).flag (.chErr c) = true := by
  have desc : ((s.releaseOwner (.channel c)).channel c).desc = (s.channel c).desc := by
    rcases releaseOwner_channel s (.channel c) c with h | h <;> rw [h]
  have set : ∀ (u : State) (p : Bool), p = true → (u.raiseIf p (.chErr c)).flag (.chErr c) = true := by
    rintro u p rfl
    exact flag_raise_self u _
  unfold State.endChannel
  exact set _ _ (by rw [desc]; exact enabled)

end

/-- The channel has ended with this code, and nothing more can reach it in this step. -/
structure EndedAs (s : State) (c : ChannelNo) (k : TermCode) : Prop where
  ended : Ended (s.channel c)
  payload : (s.channel c).payload = none
  owns : OwnsNone s c
  code : (s.channel c).code = k

theorem EndedAs.inside {s t : State} {c : ChannelNo} {k : TermCode} (h : EndedAs s c k) (work : Inside s t) : EndedAs t c k := by
  obtain ⟨ended, payload, owns, code⟩ := h
  obtain ⟨channel, none⟩ := work.ended ended payload owns
  exact ⟨by rw [channel]; exact ended, by rw [channel]; exact payload, none, by rw [channel]; exact code⟩

theorem EndedAs.settleFrom {s : State} {c : ChannelNo} {k : TermCode} (h : EndedAs s c k) (old : List (ChannelNo × BurstRequest)) :
    EndedAs (s.settleFrom old) c k := by
  obtain ⟨ended, payload, owns, code⟩ := h
  obtain ⟨channel, none⟩ := settleFrom_ended s old ended payload owns
  exact ⟨by rw [channel]; exact ended, by rw [channel]; exact payload, none, by rw [channel]; exact code⟩

theorem EndedAs.of_channel {s : State} {c : ChannelNo} {ch : Channel} {k : TermCode} {r : Option RefuseReason}
    (channel : s.channel c = ch.ended k r) (owns : OwnsNone s c) : EndedAs s c k := by
  refine ⟨?_, ?_, owns, ?_⟩ <;> rw [channel]
  · exact ⟨rfl, rfl, rfl, rfl⟩
  · rfl
  · rfl

theorem endedAs_endChannel (s : State) (c : ChannelNo) (k : TermCode) (r : Option RefuseReason) :
    EndedAs (s.endChannel c k r) c k := .of_channel (endChannel_channel_self s c k r) (ownsNone_endChannel s c k r)

/-! ## The work that no frame makes due -/

/-- What the work of the station's own owners leaves: the Inbound Service, the Membership Unit, the Notice Queue, abandoned
entries; the Receive Buffer loses at most its head. -/
structure OwnWork (s t : State) : Prop where
  inbound : t.inbound = s.inbound
  member : t.member = s.member
  notices : t.notices.queue = s.notices.queue ∧ t.notices.seq = s.notices.seq
  buffer : t.rx.buffer <:+ s.rx.buffer
  abandoned : ∀ g, (s.entry g).state = .abandoned → t.entry g = s.entry g

theorem OwnWork.refl (s : State) : OwnWork s s := ⟨rfl, rfl, ⟨rfl, rfl⟩, List.suffix_rfl, fun _ _ => rfl⟩

theorem OwnWork.trans {s t u : State} (h : OwnWork s t) (k : OwnWork t u) : OwnWork s u :=
  ⟨k.inbound.trans h.inbound, k.member.trans h.member, ⟨k.notices.1.trans h.notices.1, k.notices.2.trans h.notices.2⟩,
    k.buffer.trans h.buffer, fun g state => by
      have first := h.abandoned g state
      exact (k.abandoned g (by rw [first]; exact state)).trans first⟩

theorem OwnWork.foldl {α : Type} (f : State → α → State) (hf : ∀ s a, OwnWork s (f s a)) (l : List α) (s : State) :
    OwnWork s (l.foldl f s) := by
  induction l generalizing s with
  | nil => exact .refl s
  | cons a l ih => exact (hf s a).trans (ih _)

section
variable (s : State)

theorem modifyChannel_own (c : ChannelNo) (f : Channel → Channel) : OwnWork s (s.modifyChannel c f) :=
  ⟨rfl, rfl, ⟨rfl, rfl⟩, List.suffix_rfl, fun _ _ => rfl⟩

theorem raiseIf_own (p : Bool) (f : EventFlag) : OwnWork s (s.raiseIf p f) := by
  unfold State.raiseIf
  split
  · exact ⟨rfl, rfl, ⟨rfl, rfl⟩, List.suffix_rfl, fun _ _ => rfl⟩
  · exact .refl s

theorem setEntry_own {g : Tag} (e : Entry) (other : (s.entry g).state ≠ .abandoned) : OwnWork s (s.setEntry g e) := by
  refine ⟨rfl, rfl, ⟨rfl, rfl⟩, List.suffix_rfl, fun h state => ?_⟩
  rw [entry_setEntry, if_neg]
  rintro rfl
  exact other state

theorem letGo_own (f : FrameRef) : OwnWork s (s.letGo f) := by
  obtain ⟨l, r, eq, buffer⟩ := letGo_eq s f
  rw [eq]
  exact ⟨rfl, rfl, ⟨rfl, rfl⟩, buffer ▸ List.suffix_rfl, fun _ _ => rfl⟩

theorem dropFetch_own (e : Entry) : OwnWork s (s.dropFetch e) := by
  unfold State.dropFetch
  split
  · exact ⟨rfl, rfl, ⟨rfl, rfl⟩, List.suffix_rfl, fun _ _ => rfl⟩
  · exact .refl s

theorem endLanding_own (g : Tag) : OwnWork s (s.endLanding g) := by
  unfold State.endLanding
  split
  · exact ⟨rfl, rfl, ⟨rfl, rfl⟩, List.tail_suffix _, fun _ _ => rfl⟩
  · exact .refl s

theorem dequeueTag_own (g : Tag) : OwnWork s (s.dequeueTag g) := ⟨rfl, rfl, ⟨rfl, rfl⟩, List.suffix_rfl, fun _ _ => rfl⟩

theorem releaseEntry_own (g : Tag) : OwnWork s (s.releaseEntry g) := by
  unfold State.releaseEntry
  split
  · next queued =>
    unfold State.freeQueued
    refine (((letGo_own s _).trans (dropFetch_own _ _)).trans (setEntry_own _ _ ?_)).trans (dequeueTag_own _ g)
    rw [dropFetch_entry, letGo_entry, queued]
    decide
  · next live =>
    refine (endLanding_own s g).trans (setEntry_own _ _ ?_)
    rw [endLanding_entry, live]
    decide
  · exact .refl s

theorem releaseOwner_own (o : Owner) : OwnWork s (s.releaseOwner o) := by
  refine OwnWork.foldl _ (fun s g => ?_) _ s
  split
  · exact releaseEntry_own s g
  · exact .refl s

theorem endChannel_own (c : ChannelNo) (k : TermCode) (r : Option RefuseReason) : OwnWork s (s.endChannel c k r) := by
  rw [endChannel_eq]
  exact ((releaseOwner_own s _).trans (modifyChannel_own _ c _)).trans (raiseIf_own _ _ _)

theorem finishSlot_own (x : SlotResult) (r : Option RefuseReason) : OwnWork s (s.finishSlot x r) :=
  ⟨rfl, rfl, ⟨rfl, rfl⟩, List.suffix_rfl, fun _ _ => rfl⟩

theorem dropOwner_own (o : Owner) : OwnWork s (s.dropOwner o) := by
  cases o with
  | channel c => exact endChannel_own s c _ _
  | host => exact finishSlot_own s _ _

theorem startChannels_own : OwnWork s s.startChannels := by
  refine OwnWork.foldl _ (fun s c => ?_) _ s
  unfold State.startIfDue
  split
  · exact modifyChannel_own s c _
  · exact .refl s

theorem askChannels_own : OwnWork s s.askChannels := by
  refine OwnWork.foldl _ (fun s c => ?_) _ s
  unfold State.askChannel
  split <;> exact modifyChannel_own s c _

theorem askOwners_own : OwnWork s s.askOwners :=
  (askChannels_own s).trans (OwnWork.foldl _ dropOwner_own _ _)

theorem queueEntry_own {g : Tag} (e : Entry) (free : (s.entry g).state = .free) : OwnWork s (s.queueEntry g e) := by
  refine ⟨rfl, rfl, ⟨rfl, rfl⟩, List.suffix_rfl, fun h state => ?_⟩
  rw [entry_queueEntry, if_neg]
  rintro rfl
  rw [free] at state
  cases state

theorem requestFetch_own (c : ChannelNo) (r : BurstRequest) : OwnWork s (s.requestFetch c r) :=
  ⟨rfl, rfl, ⟨rfl, rfl⟩, List.suffix_rfl, fun _ _ => rfl⟩

theorem setSlot_own (x : Slot) : OwnWork s (s.setSlot x) := ⟨rfl, rfl, ⟨rfl, rfl⟩, List.suffix_rfl, fun _ _ => rfl⟩

theorem issueSegment_own {c : ChannelNo} {g : Tag} {r : SegRecord} (free : (s.entry g).state = .free) :
    OwnWork s (s.issueSegment c g r) := by
  unfold State.issueSegment
  dsimp only
  have queued := (modifyChannel_own s c fun ch =>
    { ch with waiting := false, payload := none, records := issueFirst g ch.records }).trans
      (queueEntry_own _ ((s.channel c).desc.segmentEntry c r) free)
  split
  · exact queued
  · exact queued.trans (requestFetch_own _ c _)

theorem offerChannel_own {c : ChannelNo} {g : Tag} (free : (s.entry g).state = .free) : OwnWork s (s.offerChannel c g) := by
  unfold State.offerChannel
  dsimp only
  split
  · split
    · split
      · exact (modifyChannel_own s c _).trans (queueEntry_own _ _ free)
      · exact dropOwner_own s _
    · exact .refl s
  · split
    · split
      · exact issueSegment_own s free
      · exact dropOwner_own s _
    · exact .refl s

theorem offerSlot_own {g : Tag} (free : (s.entry g).state = .free) : OwnWork s (s.offerSlot g) := by
  unfold State.offerSlot
  dsimp only
  split
  · exact (setSlot_own s _).trans (queueEntry_own _ _ free)
  · exact dropOwner_own s _

theorem grantTag_own (o : Owner) : OwnWork s (s.grantTag o) := by
  unfold State.grantTag
  split
  · exact .refl s
  · next g lowest =>
    have free := free_of_lowestFree s lowest
    split
    · cases o with
      | channel c => exact offerChannel_own s free
      | host => exact offerSlot_own s free
    · exact .refl s

theorem allocateTags_own : OwnWork s s.allocateTags := OwnWork.foldl _ grantTag_own _ s

end

/-! ## Settling when no frame but a control frame waits -/

/-- The Inbound Service after its engine has taken the head that is due (R76). -/
def taken (i : Inbound) : Inbound :=
  match i.engine, i.queue with
  | .idle, r :: _ => { i with engine := if r.write then .writing else .reading 0 }
  | _, _ => i

theorem engineTake_inbound (s : State) : s.engineTake.inbound = taken s.inbound := by
  unfold State.engineTake taken
  cases engine : s.inbound.engine with
  | idle =>
    cases queue : s.inbound.queue with
    | nil => rfl
    | cons r rest =>
      dsimp only
      by_cases write : r.write = true
      · simp only [if_pos write]
        rw [← queue]
        rfl
      · simp only [if_neg write]
        rw [← queue]
        rfl
  | _ => rfl

theorem taken_taken (i : Inbound) : taken (taken i) = taken i := by
  unfold taken
  cases engine : i.engine with
  | idle =>
    cases queue : i.queue with
    | nil => simp [engine, queue]
    | cons r rest => cases write : r.write <;> simp [write]
  | _ => simp [engine]

theorem engineTake_others (s : State) : s.engineTake.member = s.member ∧ s.engineTake.notices = s.notices ∧
    s.engineTake.rx = s.rx ∧ s.engineTake.tracker = s.tracker := by
  unfold State.engineTake
  split
  · split <;> exact ⟨rfl, rfl, rfl, rfl⟩
  · exact ⟨rfl, rfl, rfl, rfl⟩

/-- A frame that no block but the Membership Unit takes. -/
def isControl (b : FrameBody) : Prop := (∃ st, b = .hello st) ∨ b = .announce ∨ b = .leave

/-- What settling leaves alone when no frame but a control frame waits; the engine takes the head that is due. -/
structure QuietWork (s t : State) : Prop where
  inbound : t.inbound = taken s.inbound
  notices : t.notices.queue = s.notices.queue ∧ t.notices.seq = s.notices.seq
  buffer : t.rx.buffer <:+ s.rx.buffer
  abandoned : ∀ g, (s.entry g).state = .abandoned → t.entry g = s.entry g

theorem settleOnce_quiet (s : State) : QuietWork s s.settleOnce := by
  obtain ⟨inbound, -, notices, buffer, abandoned⟩ := startChannels_own s
  obtain ⟨-, others, rx, tracker⟩ := engineTake_others s.startChannels
  unfold State.settleOnce
  refine ⟨by rw [engineTake_inbound, inbound], by rw [others]; exact notices, by rw [rx]; exact buffer, fun g state => ?_⟩
  rw [entry_congr tracker]
  exact abandoned g state

theorem QuietWork.own {s t u : State} (h : QuietWork s t) (k : OwnWork t u) : QuietWork s u :=
  ⟨k.inbound.trans h.inbound, ⟨k.notices.1.trans h.notices.1, k.notices.2.trans h.notices.2⟩, k.buffer.trans h.buffer,
    fun g state => (k.abandoned g (by rw [h.abandoned g state]; exact state)).trans (h.abandoned g state)⟩

theorem QuietWork.trans {s t u : State} (h : QuietWork s t) (k : QuietWork t u) : QuietWork s u :=
  ⟨k.inbound.trans (by rw [h.inbound, taken_taken]), ⟨k.notices.1.trans h.notices.1, k.notices.2.trans h.notices.2⟩,
    k.buffer.trans h.buffer,
    fun g state => (k.abandoned g (by rw [h.abandoned g state]; exact state)).trans (h.abandoned g state)⟩

theorem popBuffer_own (s : State) : OwnWork s s.popBuffer :=
  ⟨rfl, rfl, ⟨rfl, rfl⟩, List.tail_suffix _, fun _ _ => rfl⟩

theorem dispatchHead_of_control {s : State} (control : ∀ f ∈ s.rx.buffer, isControl f.body) : OwnWork s s.dispatchHead := by
  unfold State.dispatchHead
  cases head : s.rx.buffer with
  | nil => exact .refl s
  | cons f rest =>
    rcases control f (by rw [head]; exact List.mem_cons_self) with ⟨st, body⟩ | body | body <;>
      simp only [body] <;> exact popBuffer_own s

theorem settleTags_quiet {s t : State} (h : QuietWork s t) : QuietWork s t.settleTags := by
  have allocated := h.own (allocateTags_own t)
  unfold State.settleTags
  obtain ⟨inbound, notices, buffer, abandoned⟩ := allocated
  exact ⟨by rwa [checkDrain_inbound], by rwa [checkDrain_notices], by rwa [checkDrain_rx], fun g state => by
    rw [checkDrain_entry]; exact abandoned g state⟩

theorem settleN_quiet (n : Nat) (s : State) (control : ∀ f ∈ s.rx.buffer, isControl f.body) :
    QuietWork s (State.settleN n s) := by
  induction n generalizing s with
  | zero => exact settleTags_quiet ((settleOnce_quiet s).own (askOwners_own _))
  | succ n ih =>
    have once := settleOnce_quiet s
    have asked := once.own (askOwners_own s.settleOnce)
    have rest : ∀ u, QuietWork s u → ∀ f ∈ u.rx.buffer, isControl f.body := fun u h f there =>
      control f (h.buffer.subset there)
    have next : ∀ u, QuietWork s u → QuietWork s (State.settleN n u.dispatchHead) := fun u h =>
      (h.own (dispatchHead_of_control (rest u h))).trans (ih _ (rest _ (h.own (dispatchHead_of_control (rest u h)))))
    rw [State.settleN]
    dsimp only
    split
    · exact next _ once
    · split
      · exact next _ asked
      · exact settleTags_quiet asked

/-- Settling where no frame but a control frame waits. -/
theorem settleFrom_quiet {s : State} (control : ∀ f ∈ s.rx.buffer, isControl f.body) (old : List (ChannelNo × BurstRequest)) :
    QuietWork s (s.settleFrom old) := by
  have quiet := settleN_quiet (2 * Config.receiveBufferSize) s control
  unfold State.settleFrom
  generalize State.settleN (2 * Config.receiveBufferSize) s = u at quiet
  obtain ⟨inbound, notices, buffer, abandoned⟩ := quiet
  exact ⟨inbound, notices, buffer, abandoned⟩

theorem settleFrom_quiet_of_empty {s : State} (empty : s.rx.buffer = []) (old : List (ChannelNo × BurstRequest)) :
    QuietWork s (s.settleFrom old) :=
  settleFrom_quiet (fun f there => by rw [empty] at there; cases there) old

end Sys2Proof.Proofs
end


section
/-!
The loss of a peer: its requests, the ends of their owners, its place in the Inbound Service; and the events that make a peer
ABSENT or that hear a frame of it.
-/

set_option Elab.async false

namespace Sys2Proof.Proofs

open Sys2Proof Sys2Proof.Machine Sys2Proof.Safety Sys2Proof.Laws

/-! ## PEER_LOST reaches the owners (R21, R25, R59, R99) -/

/-- PEER_LOST for the tag ends the channel with the code: a segment's, or its end notice's. -/
def LosesWith (ch : Channel) (g : Tag) (k : TermCode) : Prop :=
  (ch.notice = none ∧ (∃ r ∈ ch.records, r.state = .outstanding g) ∧ k = .peerLost) ∨
    ∃ n, ch.notice = some n ∧ n.phase = .tagged g ∧ k = .noticeFailed

theorem LosesWith.payload {ch : Channel} {g : Tag} {k : TermCode} (h : LosesWith ch g k) :
    LosesWith { ch with payload := none } g k := h

theorem report_lost {s : State} {c : ChannelNo} {g : Tag} {k : TermCode} (h : LosesWith (s.channel c) g k) :
    s.report (.channel c) g .peerLost = s.endChannel c k none := by
  rw [State.report, State.channelResult]
  rcases h with ⟨notice, ⟨r, there, outstanding⟩, code⟩ | ⟨n, notice, phase, code⟩
  · rw [notice]
    have found : ((s.channel c).recordOf g).isSome = true := List.find?_isSome.mpr ⟨r, there, by simpa using outstanding⟩
    obtain ⟨x, eq⟩ := Option.isSome_iff_exists.mp found
    rw [eq, code]
    rfl
  · rw [notice, code]
    dsimp only
    rw [if_pos phase]
    rfl

/-- PEER_LOST for any tag ends a channel with the one code its state gives, or changes nothing. -/
theorem report_lost_cases {s : State} {c : ChannelNo} {g : Tag} {k : TermCode} (h : LosesWith (s.channel c) g k) (t : Tag) :
    s.report (.channel c) t .peerLost = s ∨ s.report (.channel c) t .peerLost = s.endChannel c k none := by
  rw [State.report, State.channelResult]
  rcases h with ⟨notice, -, code⟩ | ⟨n, notice, -, code⟩
  · rw [notice, code]
    cases (s.channel c).recordOf t with
    | none => exact .inl rfl
    | some r => exact .inr rfl
  · rw [notice, code]
    dsimp only
    split
    · exact .inr rfl
    · exact .inl rfl

theorem report_channel_other {s : State} {o : Owner} {c : ChannelNo} (other : o ≠ .channel c) (t : Tag) :
    (s.report o t .peerLost).channel c = s.channel c := by
  cases o with
  | channel d =>
    have apart : c ≠ d := fun e => other (by rw [e])
    rw [State.report, State.channelResult]
    split
    · split
      · exact endChannel_channel_other s apart _ _
      · rfl
    · split
      · exact endChannel_channel_other s apart _ _
      · rfl
  | host =>
    rw [State.report, State.slotResult]
    split <;> rfl

/-- The channel still awaits the loss, or has ended by it. -/
def Loses (s : State) (c : ChannelNo) (g : Tag) (k : TermCode) : Prop := LosesWith (s.channel c) g k ∨ EndedAs s c k

theorem Loses.report {s : State} {c : ChannelNo} {g : Tag} {k : TermCode} (h : Loses s c g k) (o : Owner) (t : Tag) :
    Loses (s.report o t .peerLost) c g k := by
  rcases h with waits | ended
  · by_cases own : o = .channel c
    · rw [own]
      rcases report_lost_cases waits t with eq | eq
      · rw [eq]; exact .inl waits
      · rw [eq]; exact .inr (endedAs_endChannel s c k none)
    · left
      rw [report_channel_other own]
      exact waits
  · exact .inr (ended.inside (report_working s o t _).inside)

theorem Loses.reports {s : State} {c : ChannelNo} {g : Tag} {k : TermCode} (h : Loses s c g k) (owner : Tag → Owner) (l : List Tag) :
    Loses (l.foldl (fun u t => u.report (owner t) t .peerLost) s) c g k := by
  induction l generalizing s with
  | nil => exact h
  | cons t l ih => exact ih (h.report (owner t) t)

/-- Once the tag of the list has been reported, its channel has ended. -/
theorem ended_of_reports {s : State} {c : ChannelNo} {g : Tag} {k : TermCode} (h : LosesWith (s.channel c) g k)
    {owner : Tag → Owner} (own : owner g = .channel c) {l : List Tag} (there : g ∈ l) :
    EndedAs (l.foldl (fun u t => u.report (owner t) t .peerLost) s) c k := by
  obtain ⟨before, after, rfl⟩ := List.append_of_mem there
  rw [List.foldl_append, List.foldl_cons]
  have ended : EndedAs ((before.foldl (fun u t => u.report (owner t) t .peerLost) s).report (owner g) g .peerLost) c k := by
    rw [own]
    rcases Loses.reports (.inl h) owner before with waits | done
    · rw [report_lost waits]
      exact endedAs_endChannel _ c k none
    · exact done.inside (report_working _ _ g _).inside
  refine ended.inside (Working.foldl _ (fun u t => ?_) after _).inside
  exact report_working u _ t _

/-- The slot after PEER_LOST for its tag. -/
def SlotLost (s t : State) : Prop :=
  t.notices.slot = { s.notices.slot with state := .done, result := .peerLost, reason := none } ∧ t.flag .hostNoticeDone = true

theorem report_notices {s : State} {o : Owner} {t : Tag} (other : o ≠ .host ∨ s.notices.slot.state ≠ .sending (.tagged t)) :
    (s.report o t .peerLost).notices = s.notices := by
  cases o with
  | channel c =>
    rw [State.report, State.channelResult]
    split
    · split
      · exact endChannel_notices s c _ _
      · rfl
    · split
      · exact endChannel_notices s c _ _
      · rfl
  | host =>
    rw [State.report, State.slotResult]
    rw [if_neg (other.resolve_left fun no => no rfl)]

/-- The host's notice is reported with its own tag, and no other. -/
theorem slotLost_of_reports {s : State} {g : Tag} (sending : s.notices.slot.state = .sending (.tagged g)) {owner : Tag → Owner}
    (own : owner g = .host) {l : List Tag} (there : g ∈ l) :
    SlotLost s (l.foldl (fun u t => u.report (owner t) t .peerLost) s) := by
  induction l generalizing s with
  | nil => cases there
  | cons t l ih =>
    rw [List.foldl_cons]
    by_cases first : t = g
    · subst first
      have lost : s.report (owner t) t .peerLost = s.finishSlot .peerLost none := by
        rw [own, State.report, State.slotResult]
        rw [if_pos sending]
      rw [lost]
      have rest : Inside (s.finishSlot .peerLost none) (l.foldl (fun u t => u.report (owner t) t .peerLost)
          (s.finishSlot .peerLost none)) := (Working.foldl _ (fun u t => report_working u _ t _) l _).inside
      exact ⟨(rest.slot rfl).trans rfl, rest.flag (flag_raise_self _ _)⟩
    · have kept : (s.report (owner t) t .peerLost).notices = s.notices :=
        report_notices (.inr fun no => first (by
          rw [sending] at no
          injection no with no
          injection no with no
          exact no.symm))
      obtain ⟨slot, flag⟩ := ih (s := s.report (owner t) t .peerLost) (by rw [kept]; exact sending)
        ((List.mem_cons.mp there).resolve_left fun e => first e.symm)
      exact ⟨by rw [slot, kept], flag⟩

/-! ## What the tracker's purge leaves (R58) -/

theorem purgeEntry_channel (s : State) (t : Tag) (c : ChannelNo) :
    (s.purgeEntry t).channel c = s.channel c ∨ (s.purgeEntry t).channel c = { s.channel c with payload := none } := by
  unfold State.purgeEntry
  split
  · exact freeQueued_channel s t c
  · exact .inl (endLanding_channel s t c)
  · exact .inl (endLanding_channel s t c)
  · exact .inl rfl
  · exact .inl rfl

theorem purgedTracker_channel (s : State) (p : StationNo) (c : ChannelNo) :
    (purgedTracker s p).channel c = s.channel c ∨ (purgedTracker s p).channel c = { s.channel c with payload := none } := by
  unfold purgedTracker
  generalize allTags = l
  induction l generalizing s with
  | nil => exact .inl rfl
  | cons t l ih =>
    have first : (if (s.entry t).peer = p then s.purgeEntry t else s).channel c = s.channel c ∨
        (if (s.entry t).peer = p then s.purgeEntry t else s).channel c = { s.channel c with payload := none } := by
      split
      · exact purgeEntry_channel s t c
      · exact .inl rfl
    rw [List.foldl_cons]
    rcases first with h | h <;> rcases ih (if (s.entry t).peer = p then s.purgeEntry t else s) with k | k <;> simp [k, h]

theorem purgeEntry_notices (s : State) (t : Tag) : (s.purgeEntry t).notices = s.notices := by
  unfold State.purgeEntry
  split
  · next queued =>
    have := releaseEntry_notices s t
    rwa [State.releaseEntry, queued] at this
  · unfold State.quarantineEntry State.endLanding
    split <;> rfl
  · unfold State.quarantineEntry State.endLanding
    split <;> rfl
  · rfl
  · rfl

theorem purgedTracker_notices (s : State) (p : StationNo) : (purgedTracker s p).notices = s.notices := by
  unfold purgedTracker
  generalize allTags = l
  induction l generalizing s with
  | nil => rfl
  | cons t l ih =>
    rw [List.foldl_cons, ih]
    split
    · exact purgeEntry_notices s t
    · rfl

theorem mem_lostTags {s : State} {p : StationNo} {g : Tag} (peer : (s.entry g).peer = p)
    (held : (s.entry g).state = .queued ∨ (s.entry g).state = .live) : g ∈ lostTags s p := by
  refine List.mem_filter.mpr ⟨mem_allTags g, ?_⟩
  rcases held with h | h <;> simp [peer, h]

/-- The loss as it stands in a state on the way. -/
def LostSoFar (p : StationNo) (us : Micros) (s t : State) : Prop :=
  ∀ g : Tag, (s.entry g).peer = p →
    ((s.entry g).state = .live ∨ (s.entry g).state = .abandoned → t.entry g = (s.entry g).quarantined us) ∧
    ((s.entry g).state = .queued ∨ (s.entry g).state = .live →
      (∀ c k, (s.entry g).owner = .channel c → LosesWith (s.channel c) g k → EndedAs t c k) ∧
      ((s.entry g).owner = .host → s.notices.slot.state = .sending (.tagged g) → SlotLost s t))

theorem lostSoFar_purgeTracker (s : State) (p : StationNo) : LostSoFar p s.responseTime s (s.purgeTracker p) := by
  intro g peer
  rw [purgeTracker_eq]
  have reports : Inside (purgedTracker s p) ((lostTags s p).foldl (fun u t => u.report (s.entry t).owner t .peerLost)
      (purgedTracker s p)) := (Working.foldl _ (fun u t => report_working u _ t _) _ _).inside
  have purged := purgedTracker_entry s p g
  rw [if_pos peer] at purged
  refine ⟨fun opened => ?_, fun held => ⟨fun c k own loses => ?_, fun own sending => ?_⟩⟩
  · have quarantined : purgedEntry s.responseTime (s.entry g) = (s.entry g).quarantined s.responseTime := by
      unfold purgedEntry
      rcases opened with h | h <;> rw [h]
    rw [quarantined] at purged
    rw [reports.quarantined (by rw [purged]; rfl), purged]
  · refine ended_of_reports (owner := fun t => (s.entry t).owner) ?_ own (mem_lostTags peer held)
    rcases purgedTracker_channel s p c with h | h <;> rw [h]
    · exact loses
    · exact loses.payload
  · have notices := purgedTracker_notices s p
    have lost := slotLost_of_reports (s := purgedTracker s p) (by rw [notices]; exact sending)
      (owner := fun t => (s.entry t).owner) own (mem_lostTags peer held)
    obtain ⟨slot, flag⟩ := lost
    exact ⟨by rw [slot, notices], flag⟩

/-- A later state that keeps tracker, channels, slot and flags keeps the loss. -/
theorem LostSoFar.congr {p : StationNo} {us : Micros} {s t u : State} (h : LostSoFar p us s t) (tracker : u.tracker = t.tracker)
    (channels : u.channels = t.channels) (notices : u.notices = t.notices) (host : u.host = t.host) : LostSoFar p us s u := by
  have entry : ∀ g, u.entry g = t.entry g := entry_congr tracker
  have channel : ∀ c, u.channel c = t.channel c := channel_congr channels
  have owns : ∀ c, OwnsNone t c → OwnsNone u c := fun c none g => by rw [entry]; exact none g
  intro g peer
  obtain ⟨quarantined, reported⟩ := h g peer
  refine ⟨fun opened => (entry g).trans (quarantined opened), fun held => ?_⟩
  obtain ⟨ends, slot⟩ := reported held
  refine ⟨fun c k own loses => ?_, fun own sending => ?_⟩
  · obtain ⟨ended, payload, none, code⟩ := ends c k own loses
    exact ⟨by rw [channel]; exact ended, by rw [channel]; exact payload, owns c none, by rw [channel]; exact code⟩
  · obtain ⟨lost, flag⟩ := slot own sending
    exact ⟨by rw [notices]; exact lost, by rw [State.flag, host]; exact flag⟩

theorem LostSoFar.settleFrom {p : StationNo} {us : Micros} {s t : State} (h : LostSoFar p us s t)
    (old : List (ChannelNo × BurstRequest)) : LostSoFar p us s (t.settleFrom old) := by
  intro g peer
  obtain ⟨quarantined, reported⟩ := h g peer
  refine ⟨fun opened => ?_, fun held => ?_⟩
  · have eq := quarantined opened
    rw [settleFrom_quarantined t old (by rw [eq]; rfl), eq]
  · obtain ⟨ends, slot⟩ := reported held
    refine ⟨fun c k own loses => (ends c k own loses).settleFrom old, fun own sending => ?_⟩
    obtain ⟨lost, flag⟩ := slot own sending
    exact ⟨by rw [settleFrom_slot t old (by rw [lost]; rfl)]; exact lost, settleFrom_flag t old flag⟩

theorem requestsLost_of_lostSoFar {p : StationNo} {s t : State} (h : LostSoFar p s.responseTime s t) : RequestsLost p s t := by
  intro g peer
  obtain ⟨quarantined, reported⟩ := h g peer
  refine ⟨quarantined, fun held => ?_⟩
  obtain ⟨ends, slot⟩ := reported held
  refine ⟨fun c own notice there => ?_, fun c n own notice phase => ?_, slot⟩
  · obtain ⟨ended, -, -, code⟩ := ends c .peerLost own (.inl ⟨notice, there, rfl⟩)
    exact ⟨ended.off, code⟩
  · obtain ⟨ended, -, -, code⟩ := ends c .noticeFailed own (.inr ⟨n, notice, phase, rfl⟩)
    exact ⟨ended.off, code⟩

/-! ## The purge of the Inbound Service (R84) -/

/-- The engine serves the peer. -/
def serves (i : Inbound) (p : StationNo) : Bool :=
  i.engine ≠ .idle && (match i.queue with | r :: _ => r.src = p | [] => false)

/-- The Inbound Service without a peer. -/
def purgedInbound (p : StationNo) (i : Inbound) : Inbound :=
  { i with
    queue := i.queue.filter (·.src ≠ p), responses := i.responses.filter (·.dest ≠ p)
    dataSlot := i.dataSlot.filter (·.dest ≠ p), engine := if serves i p then .idle else i.engine }

/-- What the purge of the Inbound Service does not write. -/
structure Beside (s t : State) : Prop where
  tracker : t.tracker = s.tracker
  channels : t.channels = s.channels
  notices : t.notices = s.notices
  host : t.host = s.host
  member : t.member = s.member
  buffer : t.rx.buffer = s.rx.buffer
  ram : t.ramWrites = s.ramWrites

theorem Beside.refl (s : State) : Beside s s := ⟨rfl, rfl, rfl, rfl, rfl, rfl, rfl⟩

theorem Beside.trans {s t u : State} (h : Beside s t) (k : Beside t u) : Beside s u :=
  ⟨k.tracker.trans h.tracker, k.channels.trans h.channels, k.notices.trans h.notices, k.host.trans h.host,
    k.member.trans h.member, k.buffer.trans h.buffer, k.ram.trans h.ram⟩

theorem letGo_beside (s : State) (f : FrameRef) : Beside s (s.letGo f) ∧ (s.letGo f).inbound = s.inbound := by
  obtain ⟨l, r, eq, buffer⟩ := letGo_eq s f
  rw [eq]
  exact ⟨⟨rfl, rfl, rfl, rfl, rfl, buffer, rfl⟩, rfl⟩

theorem inbound_beside (s : State) (i : Inbound) : Beside s { s with inbound := i } := ⟨rfl, rfl, rfl, rfl, rfl, rfl, rfl⟩

/-- The engine's burst for a lost peer. -/
def purgeStop (s : State) (p : StationNo) : State := if serves s.inbound p then s.engineStop else s

/-- The Data Slot's frame for a lost peer. -/
def purgeSlot (s : State) (p : StationNo) : State :=
  if (match s.inbound.dataSlot with | some d => d.dest = p | none => false : Bool) then s.emptyDataSlot else s

/-- The claim or send of an answer for a lost peer. -/
def purgeHead (s : State) (p : StationNo) : State :=
  if (match s.inbound.responses with | r :: _ => r.dest = p | [] => false : Bool) then s.letGo .response else s

theorem purgeInbound_eq (s : State) (p : StationNo) : s.purgeInbound p =
    (let t := purgeHead (purgeSlot (purgeStop s p) p) p
     { t with inbound := { t.inbound with
        queue := t.inbound.queue.filter (·.src ≠ p), responses := t.inbound.responses.filter (·.dest ≠ p) } }) := rfl

theorem purgeStop_beside (s : State) (p : StationNo) : Beside s (purgeStop s p) ∧
    (purgeStop s p).inbound = { s.inbound with engine := if serves s.inbound p then .idle else s.inbound.engine } := by
  unfold purgeStop
  split
  · exact ⟨⟨rfl, rfl, rfl, rfl, rfl, rfl, rfl⟩, rfl⟩
  · exact ⟨.refl s, rfl⟩

theorem purgeSlot_beside (s : State) (p : StationNo) : Beside s (purgeSlot s p) ∧
    (purgeSlot s p).inbound = { s.inbound with dataSlot := s.inbound.dataSlot.filter (·.dest ≠ p) } := by
  unfold purgeSlot
  cases slot : s.inbound.dataSlot with
  | none =>
    refine ⟨.refl s, ?_⟩
    rw [if_neg (by simp), Option.filter_none, ← slot]
  | some d =>
    dsimp only
    by_cases here : d.dest = p
    · obtain ⟨beside, inbound⟩ := letGo_beside s .dataSlot
      rw [if_pos (decide_eq_true here), State.emptyDataSlot, Option.filter_some, if_neg (by simp [here])]
      dsimp only
      exact ⟨beside.trans (inbound_beside _ _), by rw [inbound]⟩
    · rw [if_neg (by simp [here]), Option.filter_some, if_pos (by simp [here]), ← slot]
      exact ⟨.refl s, rfl⟩

theorem purgeHead_beside (s : State) (p : StationNo) : Beside s (purgeHead s p) ∧ (purgeHead s p).inbound = s.inbound := by
  unfold purgeHead
  generalize (match s.inbound.responses with | r :: _ => r.dest = p | [] => false : Bool) = here
  cases here
  · exact ⟨.refl s, rfl⟩
  · exact letGo_beside s .response

theorem purgeInbound_beside (s : State) (p : StationNo) : Beside s (s.purgeInbound p) ∧
    (s.purgeInbound p).inbound = purgedInbound p s.inbound := by
  obtain ⟨stop, stopped⟩ := purgeStop_beside s p
  obtain ⟨slot, emptied⟩ := purgeSlot_beside (purgeStop s p) p
  obtain ⟨head, left⟩ := purgeHead_beside (purgeSlot (purgeStop s p) p) p
  rw [purgeInbound_eq]
  dsimp only
  refine ⟨((stop.trans slot).trans head).trans (inbound_beside _ _), ?_⟩
  rw [left, emptied, stopped]
  rfl

theorem serves_iff (i : Inbound) (p : StationNo) : serves i p = true ↔
    i.engine ≠ .idle ∧ ∃ (r : InRequest) (rest : List InRequest), i.queue = r :: rest ∧ r.src = p := by
  unfold serves
  rw [Bool.and_eq_true, decide_eq_true_eq]
  refine and_congr_right fun _ => ?_
  cases i.queue with
  | nil => simp
  | cons r rest => simp

/-- The purge, and the head that the engine then takes. -/
theorem inboundPurged_of_taken {p : StationNo} {s t : State} (eq : t.inbound = taken (purgedInbound p s.inbound)) :
    InboundPurged p s t := by
  have parts : ∀ i : Inbound, (taken i).queue = i.queue ∧ (taken i).responses = i.responses ∧ (taken i).dataSlot = i.dataSlot ∧
      (taken i).windows = i.windows := fun i => by
    unfold taken
    split <;> exact ⟨rfl, rfl, rfl, rfl⟩
  obtain ⟨queue, responses, slot, windows⟩ := parts (purgedInbound p s.inbound)
  rw [InboundPurged, ← serves_iff, eq]
  refine ⟨queue, responses, slot, windows, fun idle => ?_, fun other busy => ?_⟩
  · have stopped : (purgedInbound p s.inbound).engine = .idle := by
      rcases idle with h | h
      · exact if_pos h
      · unfold purgedInbound
        rw [h]
        exact ite_self _
    unfold taken
    rw [stopped, show (purgedInbound p s.inbound).queue = s.inbound.queue.filter (·.src ≠ p) from rfl]
    cases s.inbound.queue.filter (·.src ≠ p) with
    | nil => exact stopped
    | cons r rest => rfl
  · have kept : (purgedInbound p s.inbound).engine = s.inbound.engine := if_neg other
    unfold taken
    split
    · next idle _ => exact absurd (kept.symm.trans idle) busy
    · exact kept

/-! ## A peer becomes ABSENT -/

theorem lostSoFar_peerLost (s : State) (p : StationNo) : LostSoFar p s.responseTime s (s.peerLost p) := by
  obtain ⟨beside, -⟩ := purgeInbound_beside (s.purgeTracker p) p
  exact (lostSoFar_purgeTracker s p).congr beside.tracker beside.channels beside.notices beside.host

theorem LostSoFar.of_same {p : StationNo} {us : Micros} {s u t : State} (h : LostSoFar p us u t) (tracker : u.tracker = s.tracker)
    (channels : u.channels = s.channels) (notices : u.notices = s.notices) : LostSoFar p us s t := by
  unfold LostSoFar SlotLost at h ⊢
  have entry : ∀ g, u.entry g = s.entry g := entry_congr tracker
  have channel : ∀ c, u.channel c = s.channel c := channel_congr channels
  simp only [entry, channel, notices] at h
  exact h

theorem Working.not_inFlight {s t : State} (h : Working s t) {p : StationNo}
    (none : ∀ g, (s.entry g).peer = p → ¬ InFlight (s.entry g)) : ∀ g, (t.entry g).peer = p → ¬ InFlight (t.entry g) := by
  refine h.keeps (P := fun u => ∀ g, (u.entry g).peer = p → ¬ InFlight (u.entry g)) (fun u v w hu => ?_) none
  cases w with
  | entry a e move =>
    intro g
    rw [entry_setEntry]
    split
    · next same =>
      subst same
      intro peer flight
      have old := hu g
      generalize u.entry g = x at move old
      unfold InFlight at old
      cases move with
      | release queued => exact old peer (.inl queued)
      | answered opened => exact old peer (.inr opened)
      | abandon live => exact old peer (.inr (.inl live))
      | quarantine opened => exact old peer (.inr opened)
      | landing live => exact old peer (.inr (.inl live))
    · exact hu g
  | _ => exact hu

/-- No request is in flight to a lost peer (R58). -/
theorem not_inFlight_peerLost (s : State) (p : StationNo) (g : Tag) (peer : ((s.peerLost p).entry g).peer = p) :
    ¬ InFlight ((s.peerLost p).entry g) := by
  obtain ⟨beside, -⟩ := purgeInbound_beside (s.purgeTracker p) p
  have entry : (s.peerLost p).entry g = (s.purgeTracker p).entry g := entry_congr beside.tracker g
  rw [entry] at peer ⊢
  have reports : Working (purgedTracker s p) (s.purgeTracker p) := by
    rw [purgeTracker_eq]
    exact Working.foldl _ (fun u t => report_working u _ t _) _ _
  refine reports.not_inFlight (fun h peer => ?_) g peer
  rw [purgedTracker_entry] at peer ⊢
  split
  · exact not_inFlight_purgedEntry _ _
  · next other =>
    rw [if_neg other] at peer
    exact absurd peer other

theorem Working.settled_entry {s t : State} (h : Working s t) {g : Tag}
    (settled : (s.entry g).state = .free ∨ (s.entry g).state = .quarantined) : t.entry g = s.entry g := by
  refine h.keeps (P := fun u => u.entry g = s.entry g) (fun u v w hu => ?_) rfl
  cases w with
  | entry a e move =>
    rw [entry_setEntry]
    split
    · next same =>
      subst same
      rw [hu] at move
      have never : ¬ InFlight (s.entry g) := by
        rcases settled with h | h <;> simp [InFlight, h]
      generalize s.entry g = x at move never
      unfold InFlight at never
      cases move with
      | release queued => exact absurd (.inl queued) never
      | answered opened => exact absurd (.inr opened) never
      | abandon live => exact absurd (.inr (.inl live)) never
      | quarantine opened => exact absurd (.inr opened) never
      | landing live => exact absurd (.inr (.inl live)) never
    · exact hu
  | _ => exact hu

/-- The tracker's purge, entry by entry (R58). -/
theorem purgeTracker_entry (s : State) {p : StationNo} {g : Tag} (peer : (s.entry g).peer = p) :
    (s.purgeTracker p).entry g = purgedEntry s.responseTime (s.entry g) := by
  have purged := purgedTracker_entry s p g
  rw [if_pos peer] at purged
  have reports : Working (purgedTracker s p) (s.purgeTracker p) := by
    rw [purgeTracker_eq]
    exact Working.foldl _ (fun u t => report_working u _ t _) _ _
  rw [reports.settled_entry, purged]
  rw [purged]
  unfold purgedEntry
  cases state : (s.entry g).state <;> simp [Entry.freed, Entry.quarantined, state]

/-! ## What a peer's loss leaves of buffer and Inbound Service -/

theorem Working.empty_buffer {s t : State} (h : Working s t) (empty : s.rx.buffer = []) : t.rx.buffer = [] := by
  refine h.keeps (P := fun u => u.rx.buffer = []) (fun u v w hu => ?_) empty
  cases w with
  | rx r buffer =>
    rcases buffer with same | same <;> rw [hu] at same <;> exact same
  | _ => exact hu

theorem report_lost_own (s : State) (o : Owner) (t : Tag) : OwnWork s (s.report o t .peerLost) := by
  cases o with
  | channel c =>
    rw [State.report, State.channelResult]
    split
    · split
      · exact endChannel_own s c _ _
      · exact .refl s
    · split
      · exact endChannel_own s c _ _
      · exact .refl s
  | host =>
    rw [State.report, State.slotResult]
    split
    · exact finishSlot_own s _ _
    · exact .refl s

theorem purgeEntry_inbound (s : State) (t : Tag) : (s.purgeEntry t).inbound = s.inbound := by
  unfold State.purgeEntry
  split
  · next queued =>
    have own := (releaseEntry_own s t).inbound
    rwa [State.releaseEntry, queued] at own
  · exact (endLanding_own s t).inbound
  · exact (endLanding_own s t).inbound
  · rfl
  · rfl

theorem purgeTracker_inbound (s : State) (p : StationNo) : (s.purgeTracker p).inbound = s.inbound := by
  have purged : (purgedTracker s p).inbound = s.inbound := by
    unfold purgedTracker
    generalize allTags = l
    induction l generalizing s with
    | nil => rfl
    | cons t l ih =>
      rw [List.foldl_cons, ih]
      split
      · exact purgeEntry_inbound s t
      · rfl
  rw [purgeTracker_eq]
  exact (OwnWork.foldl _ (fun u t => report_lost_own u _ t) _ _).inbound.trans purged

theorem peerLost_inbound (s : State) (p : StationNo) : (s.peerLost p).inbound = purgedInbound p s.inbound := by
  rw [State.peerLost, (purgeInbound_beside _ p).2, purgeTracker_inbound]

theorem peerLost_empty_buffer {s : State} (empty : s.rx.buffer = []) (p : StationNo) : (s.peerLost p).rx.buffer = [] := by
  rw [State.peerLost, (purgeInbound_beside _ p).1.buffer]
  exact (purgeTracker_working s p).empty_buffer empty

/-- What a peer's loss leaves of the station, but for its roster entry. -/
theorem peerLost_station (s : State) (p : StationNo) : (s.peerLost p).host.refusal = s.host.refusal ∧
    (s.peerLost p).ramWrites = s.ramWrites ∧ (s.peerLost p).inbound.windows = s.inbound.windows := by
  refine ⟨?_, ?_, ?_⟩
  · rw [State.peerLost, (purgeInbound_beside _ p).1.host]
    exact (purgeTracker_working s p).keeps (P := fun u => u.host.refusal = s.host.refusal)
      (fun u v w hu => by cases w <;> exact hu) rfl
  · rw [State.peerLost, (purgeInbound_beside _ p).1.ram]
    exact (purgeTracker_working s p).keeps (P := fun u => u.ramWrites = s.ramWrites)
      (fun u v w hu => by cases w <;> exact hu) rfl
  · rw [peerLost_inbound]
    rfl

/-! ## The roster entry of a peer that is ABSENT or heard -/

theorem lt_of_isPresent {s : State} {n : StationNo} (present : s.isPresent n = true) : n.toNat < 31 := by
  by_contra no
  rw [State.isPresent, State.rosterEntry, dif_neg no] at present
  cases present

/-- A peer's roster entry is written and its requests and inbound work are lost. -/
def dropped (s : State) (p : StationNo) (e : RosterEntry) : State := (s.setRoster p e).peerLost p

theorem becomeAbsent_of_present {s : State} {p : StationNo} (present : s.isPresent p = true) :
    s.becomeAbsent p = dropped s p (s.rosterEntry p).lost := if_pos present

section
variable (s : State) (p : StationNo) (e : RosterEntry)

theorem setRoster_others : (s.setRoster p e).notices = s.notices ∧ (s.setRoster p e).inbound = s.inbound ∧
    (s.setRoster p e).rx = s.rx ∧ (s.setRoster p e).host = s.host ∧ (s.setRoster p e).ramWrites = s.ramWrites ∧
    (s.setRoster p e).responseTime = s.responseTime ∧ (s.setRoster p e).member.state = s.member.state ∧
    (s.setRoster p e).member.cause = s.member.cause ∧ (s.setRoster p e).member.number = s.member.number ∧
    (s.setRoster p e).member.tResp = s.member.tResp ∧ (s.setRoster p e).member.tHb = s.member.tHb := by
  unfold State.setRoster
  split <;> exact ⟨rfl, rfl, rfl, rfl, rfl, rfl, rfl, rfl, rfl, rfl, rfl⟩

theorem dropped_rosterEntry (there : p.toNat < 31) (n : StationNo) :
    (dropped s p e).rosterEntry n = if n = p then e else s.rosterEntry n := by
  rw [dropped, rosterEntry_congr (congrArg Membership.roster (peerLost_member _ p)), rosterEntry_setRoster]
  simp only [there, and_true]

theorem dropped_member : (dropped s p e).member = (s.setRoster p e).member := peerLost_member _ p

theorem lostSoFar_dropped : LostSoFar p s.responseTime s (dropped s p e) := by
  obtain ⟨notices, -, -, -, -, time, -⟩ := setRoster_others s p e
  have lost := lostSoFar_peerLost (s.setRoster p e) p
  rw [time] at lost
  exact lost.of_same (setRoster_tracker s p e) (setRoster_channels s p e) notices

theorem dropped_inbound : (dropped s p e).inbound = purgedInbound p s.inbound := by
  rw [dropped, peerLost_inbound, (setRoster_others s p e).2.1]

theorem dropped_empty_buffer (empty : s.rx.buffer = []) : (dropped s p e).rx.buffer = [] := by
  refine peerLost_empty_buffer ?_ p
  obtain ⟨-, -, rx, -⟩ := setRoster_others s p e
  rw [rx, empty]

end

/-- Settles O21. -/
theorem settingsAreWrittenInOffline : Obligations.SettingsAreWrittenInOffline := by
  intro v s high offline
  refine ⟨?_, ?_⟩
  · intro n
    have shell : exec (.stnNumberWrite v) s = .next ((({ s with member := { s.member with number := n } } : State)).becomeAbsent n) := by
      rw [exec_takes (i := .stnNumberWrite v) (State.writeNumber v) rfl high, State.writeNumber, if_pos offline]
      rfl
    obtain ⟨u, hu⟩ : ∃ u : State, u = { s with member := { s.member with number := n } } := ⟨_, rfl⟩
    have same : u.isPresent n = s.isPresent n := by rw [hu]; rfl
    rw [← hu] at shell
    refine ⟨fun absent => ?_, fun present => ?_⟩
    · rw [shell, State.becomeAbsent, if_neg (by rw [same, absent]; decide), hu]
    · rw [becomeAbsent_of_present (same.trans present)] at shell
      have there := lt_of_isPresent present
      have entries := dropped_rosterEntry u n (u.rosterEntry n).lost there
      obtain ⟨-, inbound, -, host, ram, -, state, -, number, tResp, tHb⟩ := setRoster_others u n (u.rosterEntry n).lost
      obtain ⟨refusal, written, windows⟩ := peerLost_station (u.setRoster n (u.rosterEntry n).lost) n
      have member := dropped_member u n (u.rosterEntry n).lost
      refine ⟨_, shell, ?_, (entries n).trans (if_pos rfl), fun m other => ?_, fun g => not_inFlight_peerLost _ n g, ?_, ?_, ?_,
        ?_, ?_, ?_⟩
      · rw [member, number, hu]
      · rw [entries, if_neg other, hu]
        rfl
      · rw [member, tResp, hu]
      · rw [member, tHb, hu]
      · rw [member, state, hu]
        exact offline
      · rw [dropped, windows, inbound, hu]
      · rw [dropped, refusal, host, hu]
      · rw [dropped, written, ram, hu]
  · rw [exec_takes (i := .timingWrite v) (State.writeTiming v) rfl high, State.writeTiming, if_pos offline]

theorem Inside.not_inFlight {s t : State} (h : Inside s t) {p : StationNo} (absent : s.isPresent p = false)
    (none : ∀ g, (s.entry g).peer = p → ¬ InFlight (s.entry g)) : ∀ g, (t.entry g).peer = p → ¬ InFlight (t.entry g) := by
  have both := h.keeps (P := fun u => u.isPresent p = false ∧ ∀ g, (u.entry g).peer = p → ¬ InFlight (u.entry g))
    (fun u v w ⟨away, hu⟩ => ?_) (fun u v w ⟨away, hu⟩ => ?_) ⟨absent, none⟩
  · exact both.2
  · have work : Working u v := .single w
    exact ⟨(isPresent_congr (congrArg Membership.roster work.member) p).trans away, work.not_inFlight hu⟩
  · cases w with
    | queue a e free queued timers present =>
      refine ⟨away, fun g => ?_⟩
      rw [entry_setEntry]
      split
      · intro peer
        rw [peer, away] at present
        cases present
      · exact hu g

theorem settleFrom_not_inFlight {s : State} {p : StationNo} (absent : s.isPresent p = false)
    (none : ∀ g, (s.entry g).peer = p → ¬ InFlight (s.entry g)) (old : List (ChannelNo × BurstRequest)) :
    ∀ g, ((s.settleFrom old).entry g).peer = p → ¬ InFlight ((s.settleFrom old).entry g) := by
  obtain ⟨u, inside, eq⟩ := settleFrom_eq s old
  intro g
  rw [eq, orderFetches_entry, checkDrain_entry]
  exact inside.not_inFlight absent none g

theorem rosterEntry_settleFrom (s : State) (old : List (ChannelNo × BurstRequest)) (n : StationNo) :
    (s.settleFrom old).rosterEntry n = s.rosterEntry n := by
  obtain ⟨-, -, -, -, -, roster, -⟩ := settleFrom_same s old
  exact rosterEntry_congr roster n

/-- Settles O50. -/
theorem silenceLosesThePeer : Obligations.SilenceLosesThePeer := by
  intro n us s high p here
  have there : p.toNat < 31 := by
    rw [show p.toNat = n.val from BitVec.toNat_ofNat .. |>.trans (Nat.mod_eq_of_lt (n.isLt.trans (by decide)))]
    exact n.isLt
  have shell := exec_takes (i := .silenceTimerExpiry n) (State.silenceTimerExpiry n) rfl high
  have due : s.silenceDue p = true ↔ s.member.tHb ≠ 0 ∧ 3 * (s.member.tHb.toNat * 1000) ≤ us := by
    unfold State.silenceDue
    rw [here]
    exact (Bool.and_eq_true _ _).to_iff.trans (and_congr decide_eq_true_iff decide_eq_true_iff)
  have present : s.isPresent p = true := by rw [State.isPresent, here]; rfl
  refine ⟨fun running silent => ?_, fun g peer => ?_, fun waits => ?_⟩
  · rw [State.silenceTimerExpiry, if_pos (show s.silenceDue (stationOf n) = true from due.mpr ⟨running, silent⟩),
      show stationOf n = p from rfl, becomeAbsent_of_present present] at shell
    have entries := dropped_rosterEntry s p (s.rosterEntry p).lost there
    obtain ⟨-, -, -, -, -, -, state, -, number, -⟩ := setRoster_others s p (s.rosterEntry p).lost
    have member := dropped_member s p (s.rosterEntry p).lost
    have lost := lostSoFar_dropped s p (s.rosterEntry p).lost
    have inbound := dropped_inbound s p (s.rosterEntry p).lost
    have buffer := dropped_empty_buffer s p (s.rosterEntry p).lost
    have flights : ∀ g, ((dropped s p (s.rosterEntry p).lost).entry g).peer = p →
        ¬ InFlight ((dropped s p (s.rosterEntry p).lost).entry g) := fun g => not_inFlight_peerLost _ p g
    have ram : (dropped s p (s.rosterEntry p).lost).ramWrites = s.ramWrites :=
      (peerLost_station _ p).2.1.trans (setRoster_others s p _).2.2.2.2.1
    generalize dropped s p (s.rosterEntry p).lost = d at *
    have absent : d.isPresent p = false := by
      rw [State.isPresent, entries p, if_pos rfl]
      rfl
    obtain ⟨numbers, -, -, states, -, -, -, -, -, -, -, written, -⟩ := settleFrom_same d d.port.fetches
    refine ⟨_, shell, ?_, fun m other => ?_, settleFrom_not_inFlight absent flights _, requestsLost_of_lostSoFar (lost.settleFrom _),
      fun empty => inboundPurged_of_taken ?_, ?_, ?_, ?_⟩
    · exact (rosterEntry_settleFrom d _ p).trans ((entries p).trans (if_pos rfl))
    · exact (rosterEntry_settleFrom d _ m).trans ((entries m).trans (if_neg other))
    · rw [← inbound]
      exact (settleFrom_quiet_of_empty (buffer empty) _).inbound
    · exact states.trans (by rw [member, state])
    · exact numbers.trans (by rw [member, number])
    · exact written.trans ram
  · rw [purgeTracker_entry s peer]
    unfold purgedEntry
    cases state : (s.entry g).state <;> rfl
  · rw [shell, State.silenceTimerExpiry, if_neg]
    intro reached
    obtain ⟨running, silent⟩ := due.mp reached
    rcases waits with zero | short
    · exact running zero
    · exact absurd silent (Nat.not_le.mpr short)

/-! ## A valid frame of another station -/

theorem src_le_of_judged {claim : BitVec 7} {bytes : List Byte} {f : Frame} (valid : judgeFrame claim bytes = some f) :
    f.src.toNat < 31 := by
  unfold judgeFrame at valid
  split at valid
  · next dest src kind size rest =>
    dsimp only at valid
    split at valid
    · next checks =>
      split at valid
      · split at valid
        · have small := checks.2.2
          have eq := congrArg Frame.src (Option.some.inj valid)
          rw [← eq, BitVec.toNat_setWidth]
          exact (Nat.mod_le _ _).trans_lt (Nat.lt_succ_of_le small)
        · cases valid
      · cases valid
    · cases valid
  · cases valid

/-- What the roster makes of a frame, written out by its kind (R121 to R124). -/
theorem rosterHears_cases (s : State) (src : StationNo) (body : FrameBody) :
    (∃ e, s.rosterHears src body = s.setRoster src e) ∨ (∃ e, s.rosterHears src body = dropped s src e) ∨
      s.rosterHears src body = s := by
  unfold State.rosterHears
  cases body with
  | leave =>
    dsimp only
    by_cases present : s.isPresent src = true
    · exact .inr (.inl ⟨_, becomeAbsent_of_present present⟩)
    · exact .inr (.inr (if_neg present))
  | announce =>
    dsimp only
    split
    · exact .inr (.inl ⟨_, rfl⟩)
    · exact .inl ⟨_, rfl⟩
  | hello st => cases st <;> exact .inl ⟨_, rfl⟩
  | _ => exact .inl ⟨_, rfl⟩

/-- What the roster makes of a frame leaves the station state and the other entries. -/
theorem rosterHears_others (s : State) {src : StationNo} (there : src.toNat < 31) (body : FrameBody) :
    (∀ n, n ≠ src → (s.rosterHears src body).rosterEntry n = s.rosterEntry n) ∧
      (s.rosterHears src body).member.state = s.member.state ∧ (s.rosterHears src body).member.cause = s.member.cause ∧
      (s.rosterHears src body).member.number = s.member.number := by
  have heard : ∀ e n, n ≠ src → (s.setRoster src e).rosterEntry n = s.rosterEntry n := fun e n other => by
    rw [rosterEntry_setRoster, if_neg fun same => other same.1]
  rcases rosterHears_cases s src body with ⟨e, eq⟩ | ⟨e, eq⟩ | eq
  · obtain ⟨-, -, -, -, -, -, state, cause, number, -⟩ := setRoster_others s src e
    rw [eq]
    exact ⟨heard e, state, cause, number⟩
  · obtain ⟨-, -, -, -, -, -, state, cause, number, -⟩ := setRoster_others s src e
    rw [eq, dropped_member]
    exact ⟨fun n other => (dropped_rosterEntry s src e there n).trans (if_neg other), state, cause, number⟩
  · rw [eq]
    exact ⟨fun _ _ => rfl, rfl, rfl, rfl⟩

/-- The entry of a peer that has just been heard (R121, R122). -/
def heardEntry (e : RosterEntry) (leaving : Bool) : RosterEntry :=
  { presence := .present 0, leaving := leaving
    changed := e.changed || !e.presence.isPresent || e.leaving != leaving }

theorem heard_eq (e : RosterEntry) (leaving : Bool) : e.heard leaving = heardEntry e leaving := by
  unfold RosterEntry.heard heardEntry
  cases e.presence.isPresent <;> simp

theorem heardEntry_of_absent {e : RosterEntry} (absent : e.presence.isPresent = false) (leaving : Bool) :
    heardEntry e leaving = { heardEntry e leaving with changed := true } := by
  unfold heardEntry
  rw [absent]
  simp

theorem rosterHears_leave (s : State) {src : StationNo} (there : src.toNat < 31) :
    (s.rosterHears src .leave).rosterEntry src = if s.isPresent src then { presence := .absent, leaving := false, changed := true }
      else s.rosterEntry src := by
  change (s.becomeAbsent src).rosterEntry src = _
  by_cases present : s.isPresent src = true
  · rw [becomeAbsent_of_present present, dropped_rosterEntry s src _ there, if_pos rfl, if_pos present]
    rfl
  · rw [State.becomeAbsent, if_neg present, if_neg present]

theorem rosterHears_announce (s : State) {src : StationNo} (there : src.toNat < 31) :
    (s.rosterHears src .announce).rosterEntry src = { heardEntry (s.rosterEntry src) false with changed := true } := by
  change (if s.isPresent src then dropped s src { (s.rosterEntry src).heard false with changed := true }
    else s.setRoster src ((s.rosterEntry src).heard false)).rosterEntry src = _
  split
  · rw [dropped_rosterEntry s src _ there, if_pos rfl, heard_eq]
  · next absent =>
    rw [rosterEntry_setRoster, if_pos ⟨rfl, there⟩, heard_eq]
    exact heardEntry_of_absent (Bool.not_eq_true _ ▸ absent) false

theorem rosterEntry_heard (s : State) {src : StationNo} (there : src.toNat < 31) (leaving : Bool) :
    (s.setRoster src ((s.rosterEntry src).heard leaving)).rosterEntry src = heardEntry (s.rosterEntry src) leaving := by
  rw [rosterEntry_setRoster, if_pos ⟨rfl, there⟩, heard_eq]

/-- A frame of the other kinds keeps the leaving flag of a PRESENT peer. -/
theorem heardEntry_kept (e : RosterEntry) : heardEntry e (e.presence.isPresent && e.leaving) =
    if e.presence.isPresent then heardEntry e e.leaving else { heardEntry e false with changed := true } := by
  cases present : e.presence.isPresent with
  | true => rfl
  | false => exact heardEntry_of_absent present false

theorem admits_iff (st : StationState) (b : FrameBody) : admits st b = true ↔
    st = .online ∨ st = .leaving ∨ (st = .listening ∧ b.classValue = 2) := by
  cases st <;> simp [admits]

/-- The frame is for this station, in a state that takes it. -/
def forUs (s : State) (f : Frame) : Prop :=
  (f.dest = 31 ∨ f.dest = s.member.number.setWidth 8) ∧
    (s.member.state = .online ∨ s.member.state = .leaving ∨ (s.member.state = .listening ∧ f.body.classValue = 2))

theorem forUs_iff (s : State) (f : Frame) :
    ((f.dest = s.member.number.setWidth 8 || f.dest = 31) && admits s.member.state f.body) = true ↔ forUs s f := by
  rw [Bool.and_eq_true, admits_iff, forUs, Bool.or_eq_true, decide_eq_true_iff, decide_eq_true_iff]
  exact and_congr_left' or_comm

theorem offerFrame_of_room {s : State} {f : Frame} (here : forUs s f) (room : s.rx.buffer.length < 4) :
    s.offerFrame f = { s with rx := { s.rx with buffer := s.rx.buffer ++ [f] } } := by
  rw [State.offerFrame, if_pos ((forUs_iff s f).mpr here), if_pos (show _ < Config.receiveBufferSize from room)]

theorem offerFrame_of_full {s : State} {f : Frame} (here : forUs s f) (full : 4 ≤ s.rx.buffer.length) :
    s.offerFrame f = s.countDropped := by
  rw [State.offerFrame, if_pos ((forUs_iff s f).mpr here), if_neg (show ¬ _ < Config.receiveBufferSize from Nat.not_lt.mpr full)]

theorem offerFrame_of_other {s : State} {f : Frame} (other : ¬ forUs s f) : s.offerFrame f = s :=
  if_neg fun here => other ((forUs_iff s f).mp here)

/-- An offer writes the receiver only, and appends at most the frame. -/
theorem offerFrame_eq (s : State) (f : Frame) : ∃ r : Receiver, s.offerFrame f = { s with rx := r } ∧
    (r.buffer = s.rx.buffer ∨ r.buffer = s.rx.buffer ++ [f]) := by
  by_cases here : forUs s f
  · rcases Nat.lt_or_ge s.rx.buffer.length 4 with room | full
    · exact ⟨_, offerFrame_of_room here room, .inr rfl⟩
    · exact ⟨_, offerFrame_of_full here full, .inl rfl⟩
  · exact ⟨s.rx, offerFrame_of_other here, .inl rfl⟩

/-- A peer that leaves or rejoins loses its requests, and is purged from the Inbound Service (R58, R84, R124). -/
theorem rosterHears_loses {s : State} {src : StationNo} {body : FrameBody} (gone : body = .leave ∨ body = .announce)
    (present : s.isPresent src = true) : ∃ e, s.rosterHears src body = dropped s src e := by
  rcases gone with rfl | rfl
  · exact ⟨_, becomeAbsent_of_present present⟩
  · exact ⟨_, if_pos present⟩

/-- Settles O37. -/
theorem validFramesUpdateTheRoster : Obligations.ValidFramesUpdateTheRoster := by
  intro claim bytes f s high framing own valid other
  have there := src_le_of_judged valid
  obtain ⟨v, hv⟩ : ∃ v, v = judged s := ⟨_, rfl⟩
  obtain ⟨w, hw⟩ : ∃ w, w = v.rosterHears f.src f.body := ⟨_, rfl⟩
  have shell : exec (.frameJudged claim bytes) s = .next (w.offerFrame f).settle := by
    rw [exec_takes (i := .frameJudged claim bytes) (State.frameJudged claim bytes) rfl high, frameJudged_of_framing framing own,
      judge_of_valid valid, State.validFrame, if_neg (show f.src ≠ (judged s).member.number from other), hw, hv]
  have entry : ∀ n, v.rosterEntry n = s.rosterEntry n := fun n => by rw [hv]; rfl
  have peer : ∀ n, v.isPresent n = s.isPresent n := fun n => by rw [hv]; rfl
  obtain ⟨others, state, cause, number⟩ := rosterHears_others v there f.body
  rw [← hw] at others state cause number
  obtain ⟨r, offered, buffer⟩ := offerFrame_eq w f
  have kept : ∀ n, (w.offerFrame f).settle.rosterEntry n = w.rosterEntry n := fun n =>
    (rosterEntry_settleFrom _ _ n).trans (by rw [offered]; rfl)
  obtain ⟨-, -, -, states, causes, -⟩ := settleFrom_same (w.offerFrame f) (w.offerFrame f).port.fetches
  have stateW : w.member.state = s.member.state := state.trans (by rw [hv]; rfl)
  have numberW : w.member.number = s.member.number := number.trans (by rw [hv]; rfl)
  refine ⟨_, shell, fun n apart => (kept n).trans ((others n apart).trans (entry n)), ?_, ?_, ?_, fun gone present => ?_, ?_⟩
  · intro e there' heard
    have at_ : ∀ x, w.rosterEntry f.src = x → (w.offerFrame f).settle.rosterEntry f.src = x := fun x h => (kept f.src).trans h
    have ev : v.rosterEntry f.src = e := entry f.src
    have hear : ∀ l, heardEntry e l = heard l := fun _ => rfl
    cases body : f.body with
    | leave =>
      refine at_ _ ?_
      rw [hw, body, rosterHears_leave v there, ev]
      exact if_congr (Eq.to_iff (congrArg (· = true) (peer f.src))) rfl rfl
    | announce =>
      refine at_ _ ?_
      rw [hw, body, rosterHears_announce v there, ev, hear]
    | hello st =>
      cases st with
      | leaving =>
        refine at_ _ ?_
        rw [hw, body]
        exact (rosterEntry_heard v there true).trans (by rw [ev, hear])
      | online =>
        refine at_ _ ?_
        rw [hw, body]
        exact (rosterEntry_heard v there false).trans (by rw [ev, hear])
    | _ =>
      refine at_ _ ?_
      rw [hw, body]
      refine (rosterEntry_heard v there _).trans ?_
      rw [ev, heardEntry_kept]
      rfl
  · exact states.trans (by rw [offered]; exact stateW)
  · exact causes.trans (by rw [offered]; exact cause.trans (by rw [hv]; rfl))
  · obtain ⟨e, eq⟩ := rosterHears_loses (s := v) gone ((peer _).trans present)
    have lost := lostSoFar_dropped v f.src e
    have inbound := dropped_inbound v f.src e
    have empty := dropped_empty_buffer v f.src e
    rw [← eq, ← hw] at lost inbound empty
    have time : v.responseTime = s.responseTime := by rw [hv]; rfl
    rw [time] at lost
    have lostS : LostSoFar f.src s.responseTime s w := lost.of_same (by rw [hv]; rfl) (by rw [hv]; rfl) (by rw [hv]; rfl)
    have offeredLost : LostSoFar f.src s.responseTime s (w.offerFrame f) :=
      lostS.congr (by rw [offered]) (by rw [offered]) (by rw [offered]) (by rw [offered])
    refine ⟨requestsLost_of_lostSoFar (offeredLost.settleFrom _), fun nothing => inboundPurged_of_taken ?_⟩
    have control : ∀ x ∈ (w.offerFrame f).rx.buffer, isControl x.body := by
      have before : w.rx.buffer = [] := empty (by rw [hv]; exact nothing)
      intro x there
      rw [offered] at there
      rcases buffer with same | same <;> rw [show ({ w with rx := r } : State).rx.buffer = r.buffer from rfl, same, before] at there
      · cases there
      · rw [List.mem_singleton.mp there]
        rcases gone with body | body
        · exact .inr (.inr body)
        · exact .inr (.inl body)
    refine (settleFrom_quiet control _).inbound.trans ?_
    have same : (w.offerFrame f).inbound = w.inbound := by rw [offered]
    rw [same, inbound, hv]
    rfl
  · refine ⟨?_, ?_, ?_, ?_, ?_, ?_⟩
    · rw [← stateW, hw, hv]; rfl
    · rw [← numberW, hw, hv]; rfl
    · rw [hw, hv]; rfl
    · intro here room
      rw [hw, hv] at *
      exact offerFrame_of_room here room
    · intro here full
      rw [hw, hv] at *
      exact (offerFrame_of_full here full).trans (by rw [State.countDropped, saturatingSucc_eq])
    · intro here
      rw [hw, hv] at *
      exact offerFrame_of_other here

end Sys2Proof.Proofs
end


section
/-!
Judging heard bytes inverts forming a frame: field by field, then the body by its kind byte, then the whole frame.
-/

set_option Elab.async false

namespace Sys2Proof.Proofs

open Sys2Proof Sys2Proof.Machine Sys2Proof.Safety Sys2Proof.Laws

/-! ## Fields (R154, R155) -/

theorem bytes16_iff (h l : Byte) (x : BitVec 16) : [h, l] = bytes16 x ↔ h ++ l = x := by
  unfold bytes16
  constructor
  · intro eq
    injection eq with eh eq
    injection eq with el
    rw [eh, el]
    ext i hi
    simp only [BitVec.getElem_append, BitVec.getElem_extractLsb']
    split
    · simp [← BitVec.getLsbD_eq_getElem]
    · rw [← BitVec.getLsbD_eq_getElem]
      congr 1
      omega
  · rintro rfl
    rw [BitVec.extractLsb'_append_eq_of_le (by decide), BitVec.extractLsb'_append_eq_of_add_le (by decide)]
    simp

theorem bytes24_iff (h m l : Byte) (x : BitVec 24) : [h, m, l] = bytes24 x ↔ h ++ m ++ l = x := by
  unfold bytes24
  constructor
  · intro eq
    injection eq with eh eq
    injection eq with em eq
    injection eq with el
    rw [eh, em, el]
    ext i hi
    simp only [BitVec.getElem_append, BitVec.getElem_extractLsb']
    split
    · simp [← BitVec.getLsbD_eq_getElem]
    · split
      · rw [← BitVec.getLsbD_eq_getElem]
        congr 1
        omega
      · rw [← BitVec.getLsbD_eq_getElem]
        congr 1
        omega
  · rintro rfl
    have high : (h ++ m ++ l).extractLsb' 16 8 = h := by
      rw [BitVec.extractLsb'_append_eq_of_le (by decide), BitVec.extractLsb'_append_eq_of_le (by decide)]
      simp
    have middle : (h ++ m ++ l).extractLsb' 8 8 = m := by
      rw [BitVec.extractLsb'_append_eq_of_le (by decide), BitVec.extractLsb'_append_eq_of_add_le (by decide)]
      simp
    have low : (h ++ m ++ l).extractLsb' 0 8 = l := by
      rw [BitVec.extractLsb'_append_eq_of_add_le (by decide)]
      simp
    rw [high, middle, low]

theorem tagOf_iff (b : Byte) (t : Tag) : tagOf b = some t ↔ b = tagByte t := by
  unfold tagOf tagByte
  have small : t.val < 256 := t.isLt.trans (by decide)
  constructor
  · intro h
    split at h
    · next there =>
      have eq : b.toNat = t.val := congrArg Fin.val (Option.some.inj h)
      rw [← eq, BitVec.ofNat_toNat, BitVec.setWidth_eq]
    · cases h
  · rintro rfl
    have toNat : (BitVec.ofNat 8 t.val).toNat = t.val := by rw [BitVec.toNat_ofNat, Nat.mod_eq_of_lt small]
    rw [dif_pos (by rw [toNat]; exact t.isLt)]
    exact congrArg some (Fin.ext toNat)

theorem place_iff (b : Byte) : b.getLsbD 6 = false ↔ b = placeByte (b.getLsbD 7) (b.extractLsb' 0 6) := by
  revert b
  decide

theorem place_of_placeByte (last : Bool) (place : BitVec 6) :
    (placeByte last place).getLsbD 7 = last ∧ (placeByte last place).extractLsb' 0 6 = place ∧
      (placeByte last place).getLsbD 6 = false := by
  revert last place
  decide

theorem refuseReason_ofCode_iff (b : Byte) (r : RefuseReason) : RefuseReason.ofCode b = some r ↔ b = r.code := by
  revert b
  cases r <;> decide

theorem helloState_ofCode_iff (b : Byte) (st : HelloState) : HelloState.ofCode b = some st ↔ b = st.code := by
  revert b
  cases st <;> decide

/-! ## The body by its kind byte -/

/-- The ranges of a body's payload (R154, R157). -/
def PayloadFits : FrameBody → Prop
  | .writeReq _ _ _ p => p.length ≤ 64
  | .readData _ _ _ p => 4 ≤ p.length ∧ p.length ≤ 64 ∧ p.length % 4 = 0
  | _ => True

theorem parseBody_of_fields {body : FrameBody} (fits : PayloadFits body) : parseBody body.kindCode body.fields = some body := by
  have tag : ∀ t, tagOf (tagByte t) = some t := fun t => (tagOf_iff _ t).mpr rfl
  have joined16 : ∀ x : BitVec 16, x.extractLsb' 8 8 ++ x.extractLsb' 0 8 = x := fun x => (bytes16_iff _ _ x).mp rfl
  have joined24 : ∀ x : BitVec 24, x.extractLsb' 16 8 ++ x.extractLsb' 8 8 ++ x.extractLsb' 0 8 = x := fun x =>
    (bytes24_iff _ _ _ x).mp rfl
  cases body with
  | readReq t a l =>
    change (tagOf (tagByte t)).map _ = _
    rw [tag, Option.map_some, joined24, joined16]
  | writeReq t a l p =>
    change (if p.length ≤ 64 then (tagOf (tagByte t)).map _ else none) = _
    rw [if_pos (show p.length ≤ 64 from fits), tag, Option.map_some, joined24, joined16]
    rfl
  | notice t c =>
    change (tagOf (tagByte t)).map _ = _
    rw [tag, Option.map_some, joined16]
  | readData t last place p =>
    obtain ⟨flag, at_, clear⟩ := place_of_placeByte last place
    change (if 4 ≤ p.length ∧ p.length ≤ 64 ∧ p.length % 4 = 0 ∧ (placeByte last place).getLsbD 6 = false then
      (tagOf (tagByte t)).map _ else none) = _
    rw [if_pos ⟨fits.1, fits.2.1, fits.2.2, clear⟩, tag, Option.map_some, flag, at_]
  | ack t =>
    change (tagOf (tagByte t)).map _ = _
    rw [tag, Option.map_some]
  | refuse t r =>
    change (tagOf (tagByte t)).bind _ = _
    rw [tag, Option.bind_some, (refuseReason_ofCode_iff _ r).mpr rfl, Option.map_some]
  | hello st =>
    change (HelloState.ofCode st.code).map _ = _
    rw [(helloState_ofCode_iff _ st).mpr rfl, Option.map_some]
  | announce => rfl
  | leave => rfl

/-- A body that is read is the one its kind byte and its fields spell. -/
theorem fields_of_parseBody {kind : Byte} {fields : List Byte} {body : FrameBody} (read : parseBody kind fields = some body) :
    kind = body.kindCode ∧ fields = body.fields ∧ PayloadFits body := by
  unfold parseBody at read
  split at read
  · next is =>
    split at read
    · next t a2 a1 a0 l1 l0 =>
      obtain ⟨g, tag, rfl⟩ := Option.map_eq_some_iff.mp read
      rw [(tagOf_iff t g).mp tag]
      refine ⟨is, ?_, trivial⟩
      change _ = tagByte g :: (bytes24 _ ++ bytes16 _)
      rw [← (bytes24_iff a2 a1 a0 _).mpr rfl, ← (bytes16_iff l1 l0 _).mpr rfl]
      rfl
    · cases read
  split at read
  · next is =>
    split at read
    · next t a2 a1 a0 l1 l0 p =>
      split at read
      · next short =>
        obtain ⟨g, tag, rfl⟩ := Option.map_eq_some_iff.mp read
        rw [(tagOf_iff t g).mp tag]
        refine ⟨is, ?_, short⟩
        change _ = tagByte g :: (bytes24 _ ++ (bytes16 _ ++ p))
        rw [← (bytes24_iff a2 a1 a0 _).mpr rfl, ← (bytes16_iff l1 l0 _).mpr rfl]
        rfl
      · cases read
    · cases read
  split at read
  · next is =>
    split at read
    · next t c1 c0 =>
      obtain ⟨g, tag, rfl⟩ := Option.map_eq_some_iff.mp read
      rw [(tagOf_iff t g).mp tag]
      refine ⟨is, ?_, trivial⟩
      change _ = tagByte g :: bytes16 _
      rw [← (bytes16_iff c1 c0 _).mpr rfl]
    · cases read
  split at read
  · next is =>
    split at read
    · next t place p =>
      split at read
      · next checks =>
        obtain ⟨least, most, words, clear⟩ := checks
        obtain ⟨g, tag, rfl⟩ := Option.map_eq_some_iff.mp read
        rw [(tagOf_iff t g).mp tag]
        refine ⟨is, ?_, least, most, words⟩
        change _ = tagByte g :: placeByte _ _ :: p
        rw [← (place_iff place).mp clear]
      · cases read
    · cases read
  split at read
  · next is =>
    split at read
    · next t =>
      obtain ⟨g, tag, rfl⟩ := Option.map_eq_some_iff.mp read
      rw [(tagOf_iff t g).mp tag]
      exact ⟨is, rfl, trivial⟩
    · cases read
  split at read
  · next is =>
    split at read
    · next t code =>
      obtain ⟨g, tag, rest⟩ := Option.bind_eq_some_iff.mp read
      obtain ⟨r, reason, rfl⟩ := Option.map_eq_some_iff.mp rest
      rw [(tagOf_iff t g).mp tag, (refuseReason_ofCode_iff code r).mp reason]
      exact ⟨is, rfl, trivial⟩
    · cases read
  split at read
  · next is =>
    split at read
    · next code =>
      obtain ⟨st, state, rfl⟩ := Option.map_eq_some_iff.mp read
      rw [(helloState_ofCode_iff code st).mp state]
      exact ⟨is, rfl, trivial⟩
    · cases read
  split at read
  · next is =>
    split at read
    · cases read
      exact ⟨is, rfl, trivial⟩
    · cases read
  split at read
  · next is =>
    split at read
    · cases read
      exact ⟨is, rfl, trivial⟩
    · cases read
  · cases read

theorem fields_length_le {body : FrameBody} (fits : PayloadFits body) : body.fields.length ≤ 70 := by
  cases body with
  | writeReq t a l p =>
    have short : p.length ≤ 64 := fits
    simp only [FrameBody.fields, bytes24, bytes16, List.length_cons, List.length_append, List.length_nil]
    omega
  | readData t last place p =>
    have short : p.length ≤ 64 := fits.2.1
    simp only [FrameBody.fields, List.length_cons]
    omega
  | _ => simp [FrameBody.fields, bytes24, bytes16]

theorem wellFormed_iff (f : Frame) : Safety.Frame.WellFormed f ↔
    f.src.toNat ≤ 30 ∧ destinationFits f.dest f.body = true ∧ PayloadFits f.body := by
  unfold Safety.Frame.WellFormed PayloadFits
  cases f.body <;> rfl

/-! ## The whole frame -/

/-- The bytes of a frame before its check, by their parts. -/
def headed (dest src kind size : Byte) (fields : List Byte) : List Byte := dest :: src :: kind :: size :: fields

theorem take_headed (dest src kind size : Byte) (fields check : List Byte) :
    (headed dest src kind size (fields ++ check)).take ((headed dest src kind size (fields ++ check)).length - check.length) =
      headed dest src kind size fields := by
  have eq : headed dest src kind size (fields ++ check) = headed dest src kind size fields ++ check := rfl
  rw [eq, List.length_append, Nat.add_sub_cancel, List.take_left]

/-- Judging, where the bytes are read as header, fields and check. -/
theorem judgeFrame_headed (claim : BitVec 7) (dest src kind size : Byte) (fields : List Byte) {check : List Byte}
    (two : check.length = 2) : judgeFrame claim (headed dest src kind size (fields ++ check)) =
      if (6 ≤ size.toNat ∧ size.toNat ≤ 76 ∧ fields.length + 6 = size.toNat) ∧
          check = bytes16 (frameCheck (headed dest src kind size fields)) ∧ src.toNat ≤ 30 then
        (parseBody kind fields).bind fun body =>
          if destinationFits dest body ∧ claim = claimValue body.classValue (src.setWidth 5) then
            some { dest := dest, src := src.setWidth 5, body := body } else none
      else none := by
  have length : (fields ++ check).length - 2 = fields.length := by rw [List.length_append, two, Nat.add_sub_cancel]
  have before := take_headed dest src kind size fields check
  rw [two] at before
  have whole : endedWhole (headed dest src kind size (fields ++ check)) = true ↔
      6 ≤ size.toNat ∧ size.toNat ≤ 76 ∧ fields.length + 6 = size.toNat := by
    unfold endedWhole headed
    simp only [decide_eq_true_eq, List.length_cons, List.length_append, two]
  unfold judgeFrame
  change (if endedWhole (headed dest src kind size (fields ++ check)) = true ∧
    (fields ++ check).drop ((fields ++ check).length - 2) = bytes16 (frameCheck
      ((headed dest src kind size (fields ++ check)).take ((headed dest src kind size (fields ++ check)).length - 2))) ∧
    src.toNat ≤ 30 then _ else none) = _
  rw [length, before, List.drop_left, List.take_left]
  refine if_congr (and_congr_left' whole) ?_ rfl
  cases parseBody kind fields <;> rfl

/-- Bytes that are judged a frame have a header, and a check behind it. -/
theorem headed_of_judged {claim : BitVec 7} {bytes : List Byte} {f : Frame} (valid : judgeFrame claim bytes = some f) :
    ∃ dest src kind size rest, bytes = headed dest src kind size rest ∧ 2 ≤ rest.length := by
  unfold judgeFrame at valid
  split at valid
  · next dest src kind size rest =>
    dsimp only at valid
    split at valid
    · next checks =>
      have whole := checks.1
      unfold endedWhole at whole
      simp only [decide_eq_true_eq, List.length_cons] at whole
      exact ⟨dest, src, kind, size, rest, rfl, by omega⟩
    · cases valid
  · cases valid

/-- Settles O38. -/
theorem judgingInvertsForming : Obligations.JudgingInvertsForming := by
  intro claim bytes f
  rw [wellFormed_iff]
  constructor
  · intro valid
    obtain ⟨dest, src, kind, size, rest, rfl, long⟩ := headed_of_judged valid
    have two : (rest.drop (rest.length - 2)).length = 2 := by
      rw [List.length_drop]
      omega
    rw [← List.take_append_drop (rest.length - 2) rest, judgeFrame_headed _ _ _ _ _ _ two] at valid
    rw [← List.take_append_drop (rest.length - 2) rest]
    generalize rest.take (rest.length - 2) = fields at valid ⊢
    generalize rest.drop (rest.length - 2) = check at valid ⊢
    split at valid
    · next checks =>
      obtain ⟨⟨-, -, sized⟩, checked, small⟩ := checks
      obtain ⟨body, read, rest⟩ := Option.bind_eq_some_iff.mp valid
      split at rest
      · next fits =>
        obtain ⟨destination, claimed⟩ := fits
        obtain ⟨is, spelled, payload⟩ := fields_of_parseBody read
        have eq := (Option.some.inj rest).symm
        have number : (src.setWidth 5).toNat = src.toNat := by
          rw [BitVec.toNat_setWidth]
          exact Nat.mod_eq_of_lt (by omega)
        have back : (src.setWidth 5).setWidth 8 = src := by
          apply BitVec.eq_of_toNat_eq
          rw [BitVec.toNat_setWidth, number]
          exact Nat.mod_eq_of_lt src.isLt
        have sizes : BitVec.ofNat 8 (fields.length + 6) = size := by
          rw [sized, BitVec.ofNat_toNat, BitVec.setWidth_eq]
        have formed : f.bytesBeforeCheck = headed dest src kind size fields := by
          rw [eq]
          unfold Frame.bytesBeforeCheck headed
          dsimp only
          rw [back, ← is, ← spelled, sizes]
        refine ⟨⟨?_, ?_, ?_⟩, ?_, ?_⟩
        · rw [eq]; exact number.le.trans small
        · rw [eq]; exact destination
        · rw [eq]; exact payload
        · rw [Frame.bytes, formed, ← checked]
          rfl
        · rw [eq]; exact claimed
      · cases rest
    · cases valid
  · rintro ⟨⟨small, destination, payload⟩, rfl, rfl⟩
    have short := fields_length_le payload
    have size : (BitVec.ofNat 8 (f.body.fields.length + 6)).toNat = f.body.fields.length + 6 := by
      rw [BitVec.toNat_ofNat]
      exact Nat.mod_eq_of_lt (by omega)
    have src : (f.src.setWidth 8).toNat = f.src.toNat := by
      rw [BitVec.toNat_setWidth]
      exact Nat.mod_eq_of_lt (f.src.isLt.trans (by decide))
    have back : (f.src.setWidth 8).setWidth 5 = f.src := by
      apply BitVec.eq_of_toNat_eq
      rw [BitVec.toNat_setWidth, src]
      exact Nat.mod_eq_of_lt f.src.isLt
    have eq : f.bytes = headed f.dest (f.src.setWidth 8) f.body.kindCode (BitVec.ofNat 8 (f.body.fields.length + 6))
      (f.body.fields ++ bytes16 (frameCheck f.bytesBeforeCheck)) := rfl
    rw [eq, judgeFrame_headed _ _ _ _ _ _ rfl, if_pos, parseBody_of_fields payload, Option.bind_some, back, if_pos]
    · exact ⟨destination, rfl⟩
    · rw [size, src]
      exact ⟨⟨by omega, by omega, rfl⟩, rfl, small⟩

end Sys2Proof.Proofs
end


section
/-!
What an owner's release writes of the link, the receiver, the port and the QUEUED order; and with it CH_ABORT.
-/

set_option Elab.async false

namespace Sys2Proof.Proofs

open Sys2Proof Sys2Proof.Machine Sys2Proof.Safety Sys2Proof.Laws

/-! ## The port after withdrawals (R16, R57, R178) -/

/-- A port from which a channel's fetches, the landing, or both are withdrawn. -/
def withdrawn (p : Port) (c : ChannelNo) (fetch landing : Bool) : Port :=
  { p with
    fetches := if fetch then p.fetches.filter (·.1 ≠ c) else p.fetches
    landing := if landing then none else p.landing
    state := match p.state with
      | .burst b => .burst (if (fetch && b.requester = .fetch c) || (landing && b.requester = .landing)
          then { b with cancelled := true } else b)
      | x => x }

theorem withdrawn_nothing (p : Port) (c : ChannelNo) : withdrawn p c false false = p := by
  unfold withdrawn
  cases p with
  | mk state => cases state <;> rfl

theorem withdrawn_withdrawn (p : Port) (c : ChannelNo) (f l g m : Bool) :
    withdrawn (withdrawn p c f l) c g m = withdrawn p c (f || g) (l || m) := by
  have fetches : (if g then (if f then p.fetches.filter (·.1 ≠ c) else p.fetches).filter (·.1 ≠ c)
      else if f then p.fetches.filter (·.1 ≠ c) else p.fetches) = if (f || g) then p.fetches.filter (·.1 ≠ c) else p.fetches := by
    cases f <;> cases g <;> simp
  have landing : (if m then none else if l then none else p.landing) = if (l || m) then none else p.landing := by
    cases l <;> cases m <;> rfl
  unfold withdrawn
  dsimp only
  rw [fetches, landing]
  cases state : p.state with
  | burst b =>
    dsimp only
    congr 2
    cases fetch : decide (b.requester = .fetch c) <;> cases land : decide (b.requester = .landing) <;>
      cases f <;> cases l <;> cases g <;> cases m <;> simp_all
  | free => rfl
  | requesting => rfl

theorem withdrawFetch_port (s : State) (c : ChannelNo) : (s.withdrawFetch c).port = withdrawn s.port c true false := by
  unfold State.withdrawFetch Port.cancel withdrawn
  cases state : s.port.state with
  | burst b =>
    by_cases own : b.requester = .fetch c <;> simp [own, state]
  | _ => simp [state]

theorem withdrawLanding_port (s : State) (c : ChannelNo) : s.withdrawLanding.port = withdrawn s.port c false true := by
  unfold State.withdrawLanding Port.cancel withdrawn
  cases state : s.port.state with
  | burst b =>
    by_cases own : b.requester = .landing <;> simp [own, state]
  | _ => simp [state]

/-! ## One entry released for its owner -/

/-- The owner's QUEUED WRITE, whose fetch goes with it. -/
def isWrite (c : ChannelNo) (e : Entry) : Bool := e.owner = .channel c && e.state = .queued && e.kind = .write

/-- The owner's LIVE READ whose frame is landing. -/
def isLanding (c : ChannelNo) (e : Entry) : Bool := e.owner = .channel c && e.state = .live && e.landingMark

/-- The owner's QUEUED entry. -/
def isOwnQueued (c : ChannelNo) (e : Entry) : Bool := e.owner = .channel c && e.state = .queued

/-- One step of the release of a channel's entries. -/
def releaseIfHeld (c : ChannelNo) (s : State) (t : Tag) : State :=
  if (s.entry t).held (.channel c) then s.releaseEntry t else s

theorem releaseOwner_eq (s : State) (c : ChannelNo) : s.releaseOwner (.channel c) = allTags.foldl (releaseIfHeld c) s := rfl

section
variable (s : State) (c : ChannelNo) (t : Tag)

theorem releaseIfHeld_of_queued (own : (s.entry t).owner = .channel c) (queued : (s.entry t).state = .queued) :
    releaseIfHeld c s t = s.freeQueued t := by
  rw [releaseIfHeld, if_pos (by simp [Entry.held, own, queued]), State.releaseEntry, queued]

theorem releaseIfHeld_of_live (own : (s.entry t).owner = .channel c) (live : (s.entry t).state = .live) :
    releaseIfHeld c s t = (s.endLanding t).setEntry t (s.entry t).abandon := by
  rw [releaseIfHeld, if_pos (by simp [Entry.held, own, live]), State.releaseEntry, live]

theorem releaseIfHeld_of_other (other : ¬ ((s.entry t).owner = .channel c ∧
    ((s.entry t).state = .queued ∨ (s.entry t).state = .live))) : releaseIfHeld c s t = s := by
  rw [releaseIfHeld, if_neg]
  intro held
  simp only [Entry.held, Bool.and_eq_true, Bool.or_eq_true, decide_eq_true_eq] at held
  exact other held

theorem held_cases : ((s.entry t).owner = .channel c ∧ (s.entry t).state = .queued) ∨
    ((s.entry t).owner = .channel c ∧ (s.entry t).state = .live) ∨
    ¬ ((s.entry t).owner = .channel c ∧ ((s.entry t).state = .queued ∨ (s.entry t).state = .live)) := by
  by_cases own : (s.entry t).owner = .channel c
  · cases state : (s.entry t).state <;> simp [own]
  · simp [own]

theorem releaseIfHeld_entry_other {g : Tag} (apart : g ≠ t) : (releaseIfHeld c s t).entry g = s.entry g := by
  unfold releaseIfHeld
  split
  · rw [releaseEntry_entry, if_neg apart]
  · rfl

theorem dropFetch_port (e : Entry) (own : e.owner = .channel c) :
    (s.dropFetch e).port = withdrawn s.port c (e.kind = .write) false := by
  unfold State.dropFetch
  rw [own]
  cases e.kind with
  | write => exact withdrawFetch_port s c
  | _ => exact (withdrawn_nothing s.port c).symm

theorem releaseIfHeld_queue : (releaseIfHeld c s t).tracker.queued =
    if isOwnQueued c (s.entry t) then s.tracker.queued.filter (· ≠ t) else s.tracker.queued := by
  rcases held_cases s c t with ⟨own, queued⟩ | ⟨own, live⟩ | other
  · rw [releaseIfHeld_of_queued s c t own queued, if_pos (by simp [isOwnQueued, own, queued])]
    change ((((s.letGo (.entry t)).dropFetch (s.entry t)).tracker.queued).filter (· ≠ t)) = _
    rw [dropFetch_tracker, letGo_tracker]
  · rw [releaseIfHeld_of_live s c t own live, if_neg (by simp [isOwnQueued, live])]
    change (s.endLanding t).tracker.queued = _
    rw [endLanding_tracker]
  · rw [releaseIfHeld_of_other s c t other, if_neg]
    intro queued
    simp only [isOwnQueued, Bool.and_eq_true, decide_eq_true_eq] at queued
    exact other ⟨queued.1, .inl queued.2⟩

theorem endLanding_port : (s.endLanding t).port = withdrawn s.port c false (s.entry t).landingMark := by
  unfold State.endLanding
  cases (s.entry t).landingMark with
  | true => exact withdrawLanding_port s c
  | false => exact (withdrawn_nothing s.port c).symm

theorem releaseIfHeld_port : (releaseIfHeld c s t).port =
    withdrawn s.port c (isWrite c (s.entry t)) (isLanding c (s.entry t)) := by
  rcases held_cases s c t with ⟨own, queued⟩ | ⟨own, live⟩ | other
  · rw [releaseIfHeld_of_queued s c t own queued]
    change ((s.letGo (.entry t)).dropFetch (s.entry t)).port = _
    rw [dropFetch_port _ c _ own, letGo_port]
    simp [isWrite, isLanding, own, queued]
  · rw [releaseIfHeld_of_live s c t own live]
    change (s.endLanding t).port = _
    rw [endLanding_port s c]
    simp [isWrite, isLanding, own, live]
  · rw [releaseIfHeld_of_other s c t other]
    have write : isWrite c (s.entry t) = false := by
      rw [← Bool.not_eq_true]
      intro yes
      simp only [isWrite, Bool.and_eq_true, decide_eq_true_eq] at yes
      exact other ⟨yes.1.1, .inl yes.1.2⟩
    have landing : isLanding c (s.entry t) = false := by
      rw [← Bool.not_eq_true]
      intro yes
      simp only [isLanding, Bool.and_eq_true, decide_eq_true_eq] at yes
      exact other ⟨yes.1.1, .inr yes.1.2⟩
    rw [write, landing, withdrawn_nothing]

theorem releaseIfHeld_buffer : (releaseIfHeld c s t).rx.buffer =
    if isLanding c (s.entry t) then s.rx.buffer.tail else s.rx.buffer := by
  rcases held_cases s c t with ⟨own, queued⟩ | ⟨own, live⟩ | other
  · rw [releaseIfHeld_of_queued s c t own queued, if_neg (by simp [isLanding, queued])]
    change ((s.letGo (.entry t)).dropFetch (s.entry t)).rx.buffer = _
    rw [dropFetch_rx, letGo_buffer]
  · rw [releaseIfHeld_of_live s c t own live]
    change (s.endLanding t).rx.buffer = _
    unfold State.endLanding
    cases mark : (s.entry t).landingMark with
    | true => rw [if_pos rfl, if_pos (by simp [isLanding, own, live, mark])]; rfl
    | false => rw [if_neg (by decide), if_neg (by simp [isLanding, mark])]
  · rw [releaseIfHeld_of_other s c t other, if_neg]
    intro landing
    simp only [isLanding, Bool.and_eq_true, decide_eq_true_eq] at landing
    exact other ⟨landing.1.1, .inr landing.1.2⟩

/-- The unit claims for or sends the entry. -/
def drives (l : LinkUnit) (t : Tag) : Prop := l.unit = .sending (.entry t) ∨ l.unit = .claiming (.entry t)

theorem drives_unique {l : LinkUnit} {g t : Tag} (h : drives l g) (k : drives l t) : t = g := by
  unfold drives at h k
  rcases h with h | h <;> simp [h] at k <;> exact k.symm

theorem letGo_of_not_driving {t : Tag} (idle : ¬ drives s.link t) : s.letGo (.entry t) = s := by
  unfold State.letGo
  split
  · rfl
  · next f claiming =>
    rw [if_neg]
    rintro rfl
    exact idle (.inr claiming)
  · next f sending =>
    rw [if_neg]
    rintro rfl
    exact idle (.inl sending)

theorem releaseIfHeld_link (idle : isOwnQueued c (s.entry t) = true → ¬ drives s.link t) :
    (releaseIfHeld c s t).link = s.link ∧
      (releaseIfHeld c s t).rx = { s.rx with buffer := (releaseIfHeld c s t).rx.buffer } := by
  rcases held_cases s c t with ⟨own, queued⟩ | ⟨own, live⟩ | other
  · rw [releaseIfHeld_of_queued s c t own queued]
    unfold State.freeQueued
    rw [letGo_of_not_driving s (idle (by simp [isOwnQueued, own, queued]))]
    refine ⟨dropFetch_link s _, ?_⟩
    change (s.dropFetch (s.entry t)).rx = { s.rx with buffer := (s.dropFetch (s.entry t)).rx.buffer }
    rw [dropFetch_rx]
  · rw [releaseIfHeld_of_live s c t own live]
    refine ⟨endLanding_link s t, ?_⟩
    change (s.endLanding t).rx = { s.rx with buffer := (s.endLanding t).rx.buffer }
    unfold State.endLanding
    split <;> rfl
  · rw [releaseIfHeld_of_other s c t other]
    exact ⟨rfl, rfl⟩

end

/-! ## The entries of a list of tags -/

section
variable (c : ChannelNo) {l : List Tag} (once : l.Nodup) (s : State)

theorem releases_entry_other {g : Tag} (apart : g ∉ l) : (l.foldl (releaseIfHeld c) s).entry g = s.entry g := by
  induction l generalizing s with
  | nil => rfl
  | cons t l ih =>
    rw [List.foldl_cons, ih _ fun there => apart (List.mem_cons_of_mem t there)]
    exact releaseIfHeld_entry_other s c t fun e => apart (e ▸ List.mem_cons_self)

include once

theorem releases_port : (l.foldl (releaseIfHeld c) s).port =
    withdrawn s.port c (l.any fun t => isWrite c (s.entry t)) (l.any fun t => isLanding c (s.entry t)) := by
  induction l generalizing s with
  | nil => exact (withdrawn_nothing s.port c).symm
  | cons t l ih =>
    obtain ⟨apart, once⟩ := List.nodup_cons.mp once
    have later : ∀ g ∈ l, (releaseIfHeld c s t).entry g = s.entry g := fun g there =>
      releaseIfHeld_entry_other s c t fun e => apart (e ▸ there)
    have same : ∀ f : Entry → Bool, (l.any fun g => f ((releaseIfHeld c s t).entry g)) = l.any fun g => f (s.entry g) := fun f => by
      rw [Bool.eq_iff_iff, List.any_eq_true, List.any_eq_true]
      exact exists_congr fun g => and_congr_right fun there => by rw [later g there]
    rw [List.foldl_cons, ih once, releaseIfHeld_port, withdrawn_withdrawn, same, same]
    rfl

theorem releases_buffer : (l.foldl (releaseIfHeld c) s).rx.buffer =
    s.rx.buffer.drop (l.countP fun t => isLanding c (s.entry t)) := by
  induction l generalizing s with
  | nil => rfl
  | cons t l ih =>
    obtain ⟨apart, once⟩ := List.nodup_cons.mp once
    have later : (l.countP fun g => isLanding c ((releaseIfHeld c s t).entry g)) = l.countP fun g => isLanding c (s.entry g) :=
      List.countP_congr fun g there => by rw [releaseIfHeld_entry_other s c t fun e => apart (e ▸ there)]
    rw [List.foldl_cons, ih once, releaseIfHeld_buffer, later, List.countP_cons]
    split
    · rw [List.drop_tail, Nat.add_comm]
    · rfl

theorem releases_queue : (l.foldl (releaseIfHeld c) s).tracker.queued =
    s.tracker.queued.filter fun g => ¬ (g ∈ l ∧ isOwnQueued c (s.entry g) = true) := by
  induction l generalizing s with
  | nil => simp
  | cons t l ih =>
    obtain ⟨apart, once⟩ := List.nodup_cons.mp once
    have later : ∀ g, g ∈ l → (releaseIfHeld c s t).entry g = s.entry g := fun g there =>
      releaseIfHeld_entry_other s c t fun e => apart (e ▸ there)
    have rest : ∀ g, (g ∈ l ∧ isOwnQueued c ((releaseIfHeld c s t).entry g) = true) ↔ (g ∈ l ∧ isOwnQueued c (s.entry g) = true) :=
      fun g => and_congr_right fun there => by rw [later g there]
    rw [List.foldl_cons, ih once, releaseIfHeld_queue]
    simp only [rest]
    split
    · next first =>
      rw [List.filter_filter]
      refine List.filter_congr fun g _ => ?_
      by_cases same : g = t
      · subst same
        simp [first]
      · simp [same]
    · next first =>
      refine List.filter_congr fun g _ => ?_
      by_cases same : g = t
      · subst same
        simp [first, apart]
      · simp [same]

theorem releases_link (idle : ∀ t ∈ l, isOwnQueued c (s.entry t) = true → ¬ drives s.link t) :
    (l.foldl (releaseIfHeld c) s).link = s.link ∧
      (l.foldl (releaseIfHeld c) s).rx = { s.rx with buffer := (l.foldl (releaseIfHeld c) s).rx.buffer } := by
  induction l generalizing s with
  | nil => exact ⟨rfl, rfl⟩
  | cons t l ih =>
    obtain ⟨apart, once⟩ := List.nodup_cons.mp once
    obtain ⟨link, rx⟩ := releaseIfHeld_link s c t (idle t List.mem_cons_self)
    rw [List.foldl_cons]
    obtain ⟨links, rxs⟩ := ih once (releaseIfHeld c s t) fun g there queued => by
      rw [releaseIfHeld_entry_other s c t fun e => apart (e ▸ there)] at queued
      rw [link]
      exact idle g (List.mem_cons_of_mem t there) queued
    exact ⟨links.trans link, by rw [rxs, rx]⟩

end

/-! ## The entry that the unit claims for or sends (R134, R135, R140, R146) -/

/-- The link after a send of a channel's entry has been cut short. -/
def cutLink (l : LinkUnit) (kind : EntryKind) (p : Priority) (c : ChannelNo) : LinkUnit :=
  { (if kind = .notice then { l with spent := true } else LinkUnit.requested l p c) with unit := .waiting, idle := 0 }

/-- The receiver after it. -/
def skipped (r : Receiver) : Receiver := if r.state = .framing then { r with state := .skipping, inProgress := none } else r

theorem letGo_of_sending {s : State} {g : Tag} {c : ChannelNo} (own : (s.entry g).owner = .channel c)
    (sending : s.link.unit = .sending (.entry g)) : s.letGo (.entry g) = { s with
      link := cutLink s.link (s.entry g).kind (s.channel c).desc.priority c, rx := skipped s.rx } := by
  unfold State.letGo cutLink
  rw [sending]
  dsimp only
  rw [if_pos rfl, State.cutShort, rxSkip_eq]
  by_cases notice : (s.entry g).kind = .notice
  · rw [afterSend_notice notice, if_pos notice]
    rfl
  · rw [afterSend_request own notice, if_neg notice]
    rfl

theorem letGo_of_claiming {s : State} {g : Tag} (claiming : s.link.unit = .claiming (.entry g)) :
    s.letGo (.entry g) = s.stopDriving := by
  unfold State.letGo
  rw [claiming]
  exact if_pos rfl

theorem releaseIfHeld_desc (c : ChannelNo) (s : State) (t : Tag) (d : ChannelNo) :
    ((releaseIfHeld c s t).channel d).desc = (s.channel d).desc := by
  unfold releaseIfHeld
  split
  · rcases releaseEntry_channel s t d with h | h <;> rw [h]
  · rfl

theorem releases_desc (c : ChannelNo) (l : List Tag) (s : State) (d : ChannelNo) :
    ((l.foldl (releaseIfHeld c) s).channel d).desc = (s.channel d).desc := by
  induction l generalizing s with
  | nil => rfl
  | cons t l ih => rw [List.foldl_cons, ih, releaseIfHeld_desc]

/-- The link and the receiver after the release of the entry that the unit drives. -/
theorem releaseOwner_link_of_driven {s : State} {c : ChannelNo} {g : Tag} (own : (s.entry g).owner = .channel c)
    (queued : (s.entry g).state = .queued) :
    (s.link.unit = .sending (.entry g) →
      (s.releaseOwner (.channel c)).link = cutLink s.link (s.entry g).kind (s.channel c).desc.priority c ∧
        (s.releaseOwner (.channel c)).rx = { skipped s.rx with buffer := (s.releaseOwner (.channel c)).rx.buffer }) ∧
    (s.link.unit = .claiming (.entry g) →
      (s.releaseOwner (.channel c)).link = { s.link with unit := .waiting, idle := 0 } ∧
        (s.releaseOwner (.channel c)).rx = { s.rx with buffer := (s.releaseOwner (.channel c)).rx.buffer }) := by
  obtain ⟨before, after, order⟩ := List.append_of_mem (mem_allTags g)
  have nodup := allTags_nodup
  rw [order] at nodup
  obtain ⟨first, second, apart⟩ := List.nodup_append.mp nodup
  obtain ⟨notAfter, second⟩ := List.nodup_cons.mp second
  have notBefore : g ∉ before := fun there => apart g there g List.mem_cons_self rfl
  have fold : s.releaseOwner (.channel c) = after.foldl (releaseIfHeld c)
      ((before.foldl (releaseIfHeld c) s).freeQueued g) := by
    rw [releaseOwner_eq, order, List.foldl_append, List.foldl_cons, releaseIfHeld_of_queued]
    · rw [releases_entry_other c s notBefore, own]
    · rw [releases_entry_other c s notBefore, queued]
  have other : ∀ t ∈ before, drives s.link g → ¬ drives s.link t := by
    intro t there h k
    exact notBefore (drives_unique h k ▸ there)
  have entry := releases_entry_other c s notBefore
  have desc := releases_desc c before s c
  have early := releases_link c first s
  rw [fold]
  generalize before.foldl (releaseIfHeld c) s = u at early entry desc
  have freed : ∀ v : State, v = u.letGo (.entry g) → v.link.unit = .waiting →
      (after.foldl (releaseIfHeld c) (u.freeQueued g)).link = v.link ∧
        (after.foldl (releaseIfHeld c) (u.freeQueued g)).rx =
          { v.rx with buffer := (after.foldl (releaseIfHeld c) (u.freeQueued g)).rx.buffer } := by
    intro v eq waits
    have link : (u.freeQueued g).link = v.link := by
      rw [eq]
      exact dropFetch_link _ _
    have rx : (u.freeQueued g).rx = v.rx := by
      rw [eq]
      exact dropFetch_rx _ _
    obtain ⟨links, rxs⟩ := releases_link c second (u.freeQueued g) fun t _ _ => by
      rw [link]
      rintro (h | h) <;> rw [waits] at h <;> cases h
    exact ⟨links.trans link, by rw [rxs, rx]⟩
  refine ⟨fun sending => ?_, fun claiming => ?_⟩
  · obtain ⟨link, rx⟩ := early fun t there _ => other t there (.inl sending)
    have cut := letGo_of_sending (s := u) (by rw [entry]; exact own) (by rw [link]; exact sending)
    obtain ⟨links, rxs⟩ := freed _ rfl (by rw [cut]; rfl)
    refine ⟨by rw [links, cut, link, entry, desc], ?_⟩
    rw [rxs, cut, rx]
    unfold skipped
    dsimp only
    split <;> rfl
  · obtain ⟨link, rx⟩ := early fun t there _ => other t there (.inr claiming)
    have cut := letGo_of_claiming (s := u) (by rw [link]; exact claiming)
    obtain ⟨links, rxs⟩ := freed _ rfl (by rw [cut]; rfl)
    refine ⟨by rw [links, cut, State.stopDriving, link], ?_⟩
    rw [rxs, cut, State.stopDriving, rx]

/-! ## CH_ABORT -/

theorem endChannel_blocks (s : State) (c : ChannelNo) (k : TermCode) (r : Option RefuseReason) :
    (s.endChannel c k r).link = (s.releaseOwner (.channel c)).link ∧ (s.endChannel c k r).rx = (s.releaseOwner (.channel c)).rx ∧
      (s.endChannel c k r).port = (s.releaseOwner (.channel c)).port ∧
      (s.endChannel c k r).tracker = (s.releaseOwner (.channel c)).tracker := by
  rw [endChannel_eq]
  generalize s.releaseOwner (.channel c) = u
  unfold State.raiseIf
  split <;> exact ⟨rfl, rfl, rfl, rfl⟩

theorem countP_one (g : Tag) {f : Tag → Bool} (only : ∀ t, f t = true ↔ t = g) : allTags.countP f = 1 := by
  have same : allTags.countP f = allTags.count g := List.countP_congr fun t _ => by
    rw [only t, beq_iff_eq]
  rw [same, List.count_eq_one_of_mem allTags_nodup (mem_allTags g)]

/-- Settles O17. -/
theorem chAbortEndsTheTransfer : Obligations.ChAbortEndsTheTransfer := by
  intro c s high op ch
  refine ⟨fun on => ?_, fun off => ?_⟩
  · obtain ⟨r, hr⟩ : ∃ r, r = s.endChannel c .aborted none := ⟨_, rfl⟩
    have shell : exec (.chAbort op) s = .next r.settle := by
      rw [exec_command (i := .chAbort op) (State.chAbort op) rfl high, State.chAbort, if_neg on, hr]
    obtain ⟨link, rx, port, tracker⟩ := endChannel_blocks s c .aborted none
    rw [← hr] at link rx port tracker
    have entry : ∀ g, r.entry g = if (s.entry g).owner = .channel c then releasedEntry (s.entry g) else s.entry g := fun g => by
      rw [hr, endChannel_entry]
    have self : r.channel c = ch.ended .aborted none := by rw [hr, endChannel_channel_self]
    have ended : EndedAs r c .aborted := by rw [hr]; exact endedAs_endChannel s c _ _
    have flag : ch.desc.errIrq = true → r.flag (.chErr c) = true := fun enabled => by
      rw [hr]
      exact endChannel_flag s c _ _ enabled
    have garble : r.link.garble = s.link.garble := by
      rw [hr]
      exact (endChannel_working s (not_ended_of_state on) _ _).garble
    have same : SameConfiguration s r := by rw [hr]; exact endChannel_same s c _ _
    have ports : r.port = withdrawn s.port c (allTags.any fun t => isWrite c (s.entry t))
        (allTags.any fun t => isLanding c (s.entry t)) := by
      rw [port, releaseOwner_eq, releases_port c allTags_nodup]
    have buffers : r.rx.buffer = s.rx.buffer.drop (allTags.countP fun t => isLanding c (s.entry t)) := by
      rw [rx, releaseOwner_eq, releases_buffer c allTags_nodup]
    have settled := settleFrom_ended r r.port.fetches ended.ended ended.payload ended.owns
    refine ⟨r, shell, self, fun d other => by rw [hr, endChannel_channel_other s other], fun g other => ?_, fun g own => ?_, ?_,
      fun g own queued => ?_, fun idle => ?_, fun g own live mark only => ?_, fun none => ?_, garble, flag, same, settled.1,
      fun enabled => settleFrom_flag _ _ (flag enabled), settled.2, fun g own live empty => ?_,
      same_trans same (settleFrom_same _ _)⟩
    · rw [entry, if_neg other]
    · rw [entry, if_pos own]
      unfold releasedEntry
      cases (s.entry g).state <;> rfl
    · rw [tracker, releaseOwner_eq, releases_queue c allTags_nodup]
      refine List.filter_congr fun g _ => ?_
      simp [mem_allTags, isOwnQueued]
    · intro l
      obtain ⟨sends, claims⟩ := releaseOwner_link_of_driven own queued
      rw [← link, ← rx] at sends claims
      refine ⟨fun sending => ?_, fun claiming => ?_, fun write => ⟨?_, fun b burst mine => ?_⟩⟩
      · obtain ⟨links, rxs⟩ := sends sending
        refine ⟨?_, fun framing => ?_⟩
        · rw [links]
          unfold cutLink LinkUnit.requested
          by_cases notice : (s.entry g).kind = .notice
          · rw [if_pos notice, if_pos notice]
          · rw [if_neg notice, if_neg notice]
            by_cases level : (s.channel c).desc.priority = .high
            · rw [if_pos level, if_pos level]
            · rw [if_neg level, if_neg level]
        · rw [rxs, skipped, if_pos framing]
          exact ⟨rfl, rfl⟩
      · obtain ⟨links, rxs⟩ := claims claiming
        rw [links, rxs]
        exact ⟨rfl, rfl, rfl⟩
      · have some : (allTags.any fun t => isWrite c (s.entry t)) = true :=
          List.any_eq_true.mpr ⟨g, mem_allTags g, by simp [isWrite, own, queued, write]⟩
        rw [ports, some]
        rfl
      · have some : (allTags.any fun t => isWrite c (s.entry t)) = true :=
          List.any_eq_true.mpr ⟨g, mem_allTags g, by simp [isWrite, own, queued, write]⟩
        rw [ports, some, withdrawn, burst]
        simp [mine]
    · obtain ⟨links, rxs⟩ := releases_link c allTags_nodup s fun t _ queued => by
        simp only [isOwnQueued, Bool.and_eq_true, decide_eq_true_eq] at queued
        obtain ⟨sends, claims⟩ := idle t queued.1 queued.2
        exact fun h => h.elim sends claims
      rw [← releaseOwner_eq, ← link] at links
      rw [← releaseOwner_eq, ← rx] at rxs
      exact ⟨links, rxs⟩
    · have landing : ∀ t, isLanding c (s.entry t) = true ↔ t = g := fun t => by
        refine ⟨fun yes => ?_, fun e => by rw [e]; simp [isLanding, own, live, mark]⟩
        simp only [isLanding, Bool.and_eq_true, decide_eq_true_eq] at yes
        exact only t yes.2
      have some : (allTags.any fun t => isLanding c (s.entry t)) = true :=
        List.any_eq_true.mpr ⟨g, mem_allTags g, (landing g).mpr rfl⟩
      rw [buffers, countP_one g landing, ports, some]
      refine ⟨List.drop_one, rfl, fun b burst mine => ?_⟩
      rw [withdrawn, burst]
      simp [mine]
    · have nowhere : ∀ t, isLanding c (s.entry t) = false := fun t => by
        rw [← Bool.not_eq_true]
        intro yes
        simp only [isLanding, Bool.and_eq_true, decide_eq_true_eq] at yes
        rw [none t yes.1.1 yes.1.2] at yes
        cases yes.2
      rw [buffers, ports]
      simp only [nowhere]
      rw [List.countP_false, Function.const_apply, List.drop_zero]
      refine ⟨rfl, ?_⟩
      have none : (allTags.any fun _ => false) = false := by decide
      rw [none]
      rfl
    · have abandoned : r.entry g = (s.entry g).abandon := by
        rw [entry, if_pos own, releasedEntry, live]
      have kept : r.settle.entry g = r.entry g :=
        (settleFrom_quiet_of_empty empty _).abandoned g (by rw [abandoned]; rfl)
      rw [kept, abandoned]
      exact ⟨rfl, rfl⟩
  · rw [exec_command (i := .chAbort op) (State.chAbort op) rfl high, State.chAbort, if_pos off]
    rfl

end Sys2Proof.Proofs
end


section
/-!
LEAVE in ONLINE, the drain limit, and a bus error: the writes of each, and what settling then leaves of them.
-/

set_option Elab.async false

namespace Sys2Proof.Proofs

open Sys2Proof Sys2Proof.Machine Sys2Proof.Safety Sys2Proof.Laws

/-! ## LEAVE in ONLINE -/

/-- Withdrawing waiting control frames writes the control list, and where a claim for its head ends, link and receiver. -/
theorem withdrawControl_eq (s : State) (p : ControlKind → Bool) : ∃ (l : LinkUnit) (r : Receiver), s.withdrawControl p = { s with
    link := l, rx := r, member := { s.member with control := s.member.control.filter fun f => f.sending || !p f.kind } } := by
  obtain ⟨l, r, eq, -⟩ := letGo_eq s .control
  unfold State.withdrawControl
  dsimp only
  split
  · split
    · rw [eq]; exact ⟨_, _, rfl⟩
    · exact ⟨_, _, rfl⟩
  · exact ⟨_, _, rfl⟩

/-- The entry to LEAVING (R111). -/
theorem startLeaving_blocks (s : State) : ∃ (l : LinkUnit) (r : Receiver), s.startLeaving = { s with
    link := l, rx := r, host := { s.host with latched := s.host.latched ||| EventFlag.stationState.mask }
    member := { s.member with
      state := .leaving, cause := .none, drain := some (4 * (s.member.tResp.toNat * 16))
      control := (s.member.control.filter fun f => f.sending || !f.kind.helloOnline) ++ [{ kind := .hello .leaving false }] } } := by
  rw [startLeaving_eq]
  obtain ⟨l, r, eq⟩ := withdrawControl_eq (drainStarted s) ControlKind.helloOnline
  rw [eq]
  exact ⟨l, r, rfl⟩

/-- The Membership Unit after settling: a drain that has become quiet has ended. -/
theorem settleFrom_drain (s : State) (old : List (ChannelNo × BurstRequest)) :
    (s.settleFrom old).member = (if s.member.state = .leaving ∧ s.member.drain ≠ none ∧ (s.settleFrom old).trackerQuiet = true ∧
        (s.settleFrom old).inboundQuiet = true
      then { s.member with drain := none, control := s.member.control ++ [{ kind := .leave }] } else s.member) := by
  obtain ⟨u, inside, eq⟩ := settleFrom_eq s old
  have member := inside.member
  have quiet : (s.settleFrom old).trackerQuiet = u.trackerQuiet ∧ (s.settleFrom old).inboundQuiet = u.inboundQuiet := by
    rw [eq]
    unfold State.checkDrain
    split <;> exact ⟨rfl, rfl⟩
  have done := drainDone_iff u
  rw [quiet.1, quiet.2, ← member]
  rw [eq]
  change u.checkDrain.member = _
  unfold State.checkDrain
  exact (apply_ite State.member _ _ _).trans (if_congr done rfl rfl)

/-- Settles O7. -/
theorem leaveStartsTheDrain : Obligations.LeaveStartsTheDrain := by
  intro op s high online
  obtain ⟨l, r, eq⟩ := startLeaving_blocks s
  have shell : exec (.leave op) s = .next (s.startLeaving.settleFrom s.startLeaving.port.fetches) := by
    rw [exec_takes (i := .leave op) (State.leave op) rfl high, State.leave, online]
    rfl
  have drain := settleFrom_drain s.startLeaving s.startLeaving.port.fetches
  obtain ⟨number, tResp, tHb, state, cause, roster, windows, hold, -, -, -, written, -⟩ :=
    settleFrom_same s.startLeaving s.startLeaving.port.fetches
  have flag : s.startLeaving.flag .stationState = true := by
    rw [eq]
    exact flag_raise_self s .stationState
  have flagged := settleFrom_flag s.startLeaving s.startLeaving.port.fetches flag
  generalize s.startLeaving.settleFrom s.startLeaving.port.fetches = t at *
  rw [eq] at drain number tResp tHb state cause roster windows hold written
  refine ⟨t, shell, state, cause, flagged, ?_, number, tResp, tHb, ?_, roster, windows, hold, written⟩
  · intro kept hello
    by_cases quiet : t.trackerQuiet = true ∧ t.inboundQuiet = true
    · right
      rw [if_pos ⟨rfl, nofun, quiet⟩] at drain
      rw [drain]
      exact ⟨rfl, rfl, quiet⟩
    · left
      rw [if_neg fun h => quiet h.2.2] at drain
      rw [drain]
      exact ⟨rfl, rfl, quiet⟩
  · rw [drain]
    split <;> rfl

/-! ## The drain limit (R30, R85, R101, R113) -/

section
variable (s : State) (c : ChannelNo)

theorem forceChannel_of_held {g : Tag} (own : (s.entry g).owner = .channel c)
    (held : (s.entry g).state = .queued ∨ (s.entry g).state = .live) : s.forceChannel c = s.endChannel c .left none := by
  rw [State.forceChannel, if_pos]
  refine List.any_eq_true.mpr ⟨g, mem_allTags g, ?_⟩
  rcases held with h | h <;> simp [Entry.held, own, h]

theorem releasedEntry_of_not_held {e : Entry} {o : Owner} (own : e.owner = o) (free : e.held o = false) : releasedEntry e = e := by
  unfold releasedEntry
  simp only [Entry.held, own, decide_true, Bool.true_and, Bool.or_eq_false_iff, decide_eq_false_iff_not] at free
  cases state : e.state <;> simp_all

theorem forceChannel_entry (g : Tag) : (s.forceChannel c).entry g =
    if (s.entry g).owner = .channel c then releasedEntry (s.entry g) else s.entry g := by
  unfold State.forceChannel
  split
  · exact endChannel_entry s c _ _ g
  · next none =>
    split
    · next own =>
      rw [Bool.not_eq_true, List.any_eq_false] at none
      exact (releasedEntry_of_not_held own (Bool.eq_false_of_not_eq_true (none g (mem_allTags g)))).symm
    · rfl

theorem forceChannel_own : OwnWork s (s.forceChannel c) := by
  unfold State.forceChannel
  split
  · exact endChannel_own s c _ _
  · exact .refl s

theorem forceChannel_channel_other {d : ChannelNo} (other : d ≠ c) : (s.forceChannel c).channel d = s.channel d := by
  unfold State.forceChannel
  split
  · exact endChannel_channel_other s other _ _
  · rfl

theorem endChannel_keeps_flag (k : TermCode) (r : Option RefuseReason) {f : EventFlag} (set : s.flag f = true) :
    (s.endChannel c k r).flag f = true := by
  have released := (releaseOwner_working s (.channel c)).inside.flag set
  rw [endChannel_eq]
  obtain ⟨-, -, -, keeps⟩ := raiseIf_eq ((s.releaseOwner (.channel c)).modifyChannel c fun ch => ch.ended k r)
    (s.channel c).desc.errIrq (.chErr c)
  refine keeps f ?_
  generalize s.releaseOwner (.channel c) = u at released
  exact released

theorem forceChannel_keeps_flag {f : EventFlag} (set : s.flag f = true) : (s.forceChannel c).flag f = true := by
  unfold State.forceChannel
  split
  · exact endChannel_keeps_flag s c _ _ set
  · exact set

theorem forceChannel_notices : (s.forceChannel c).notices = s.notices := by
  unfold State.forceChannel
  split
  · exact endChannel_notices s c _ _
  · rfl

end

theorem releasedEntry_releasedEntry (e : Entry) : releasedEntry (releasedEntry e) = releasedEntry e := by
  have h := releasedEntry_not_held e
  generalize releasedEntry e = x at h
  unfold releasedEntry
  cases state : x.state <;> simp_all

section
variable (l : List ChannelNo) (s : State)

theorem forceChannels_own : OwnWork s (l.foldl State.forceChannel s) := OwnWork.foldl _ forceChannel_own l s

theorem forceChannels_notices : (l.foldl State.forceChannel s).notices = s.notices := by
  induction l generalizing s with
  | nil => rfl
  | cons c l ih => rw [List.foldl_cons, ih, forceChannel_notices]

theorem forceChannels_entry (g : Tag) : (l.foldl State.forceChannel s).entry g =
    if ∃ c ∈ l, (s.entry g).owner = .channel c then releasedEntry (s.entry g) else s.entry g := by
  induction l generalizing s with
  | nil => simp
  | cons c l ih =>
    have owner : ((s.forceChannel c).entry g).owner = (s.entry g).owner := by
      rw [forceChannel_entry]
      split
      · exact releasedEntry_owner _
      · rfl
    rw [List.foldl_cons, ih, owner, forceChannel_entry]
    by_cases first : (s.entry g).owner = .channel c
    · rw [if_pos first, releasedEntry_releasedEntry, ite_self]
      exact (if_pos ⟨c, List.mem_cons_self, first⟩).symm
    · rw [if_neg first]
      refine if_congr ?_ rfl rfl
      simp [first]

/-- The channels of a list that own an unanswered request have ended. -/
theorem forceChannels_ended (once : l.Nodup) {c : ChannelNo} (there : c ∈ l) {g : Tag} (own : (s.entry g).owner = .channel c)
    (held : (s.entry g).state = .queued ∨ (s.entry g).state = .live) :
    (l.foldl State.forceChannel s).channel c = (s.channel c).ended .left none ∧
      ((s.channel c).desc.errIrq = true → (l.foldl State.forceChannel s).flag (.chErr c) = true) := by
  induction l generalizing s with
  | nil => cases there
  | cons d l ih =>
    obtain ⟨apart, once⟩ := List.nodup_cons.mp once
    rw [List.foldl_cons]
    by_cases first : c = d
    · subst first
      have rest : ∀ (m : List ChannelNo) (u : State), c ∉ m → (m.foldl State.forceChannel u).channel c = u.channel c ∧
          (u.flag (.chErr c) = true → (m.foldl State.forceChannel u).flag (.chErr c) = true) := by
        intro m
        induction m with
        | nil => exact fun u _ => ⟨rfl, id⟩
        | cons e m ih =>
          intro u away
          obtain ⟨channel, flag⟩ := ih (u.forceChannel e) fun h => away (List.mem_cons_of_mem e h)
          exact ⟨channel.trans (forceChannel_channel_other u e fun h => away (h ▸ List.mem_cons_self)),
            fun set => flag (forceChannel_keeps_flag u e set)⟩
      obtain ⟨channel, flag⟩ := rest l (s.forceChannel c) apart
      rw [forceChannel_of_held s c own held] at channel flag ⊢
      exact ⟨channel.trans (endChannel_channel_self s c _ _), fun enabled => flag (endChannel_flag s c _ _ enabled)⟩
    · have other : (s.forceChannel d).entry g = s.entry g := by
        rw [forceChannel_entry, if_neg fun h => first (by rw [own] at h; injection h)]
      have channel := forceChannel_channel_other s d first
      have later := ih (s.forceChannel d) once ((List.mem_cons.mp there).resolve_left first) (by rw [other]; exact own)
        (by rw [other]; exact held)
      rwa [channel] at later

end

section
variable (s : State) (x : SlotResult) (r : Option RefuseReason)

theorem finishSlot_channel (c : ChannelNo) : (s.finishSlot x r).channel c = s.channel c := rfl

theorem finishSlot_entry (g : Tag) : (s.finishSlot x r).entry g = s.entry g := rfl

theorem finishSlot_keeps_flag {f : EventFlag} (set : s.flag f = true) : (s.finishSlot x r).flag f = true :=
  flag_raise (s.setSlot _) _ f set

theorem finishSlot_flag : (s.finishSlot x r).flag .hostNoticeDone = true := flag_raise_self _ _

theorem finishSlot_slot : (s.finishSlot x r).notices.slot = { s.notices.slot with state := .done, result := x, reason := r } := rfl

end

theorem forceSlot_own (s : State) : OwnWork s s.forceSlot := by
  unfold State.forceSlot
  split
  · exact (releaseOwner_own s _).trans (finishSlot_own _ _ _)
  · exact .refl s

theorem forceSlot_channel (s : State) (c : ChannelNo) : s.forceSlot.channel c = s.channel c := by
  unfold State.forceSlot
  split
  · rw [finishSlot_channel]
    exact releaseOwner_channel_other s nofun
  · rfl

theorem forceSlot_entry (s : State) {g : Tag} {c : ChannelNo} (own : (s.entry g).owner = .channel c) :
    s.forceSlot.entry g = s.entry g := by
  unfold State.forceSlot
  split
  · rw [finishSlot_entry, releaseOwner_entry, if_neg (by rw [own]; exact nofun)]
  · rfl

theorem forceSlot_slot (s : State) : (s.notices.slot.state.isSending = true → SlotLost s s.forceSlot) ∧
    (s.notices.slot.state.isSending = false → s.forceSlot = s) := by
  unfold State.forceSlot
  cases state : s.notices.slot.state with
  | sending p =>
    refine ⟨fun _ => ⟨?_, finishSlot_flag _ _ _⟩, nofun⟩
    rw [finishSlot_slot, releaseOwner_notices]
  | idle => exact ⟨nofun, fun _ => rfl⟩
  | done => exact ⟨nofun, fun _ => rfl⟩

theorem forceSlot_keeps_flag (s : State) {f : EventFlag} (set : s.flag f = true) : s.forceSlot.flag f = true := by
  unfold State.forceSlot
  split
  · exact finishSlot_keeps_flag _ _ _ ((releaseOwner_working s .host).inside.flag set)
  · exact set

theorem forceInbound_beside (s : State) : Beside s s.forceInbound ∧ s.forceInbound.inbound = { s.inbound with
    queue := [], responses := s.inbound.responses.filter (·.sending), dataSlot := s.inbound.dataSlot.filter (·.sending)
    engine := .idle } := by
  unfold State.forceInbound
  dsimp only
  split <;> exact ⟨⟨rfl, rfl, rfl, rfl, rfl, rfl, rfl⟩, rfl⟩

/-- In LEAVING an idle Inbound Service without requests takes none: it only answers (R68, R89). -/
theorem Inside.leaving {s t : State} (h : Inside s t) (leaving : s.member.state = .leaving) (queue : s.inbound.queue = [])
    (idle : s.inbound.engine = .idle) : t.inbound.queue = [] ∧ t.inbound.engine = .idle ∧
      t.inbound.dataSlot = s.inbound.dataSlot ∧ (∃ more, t.inbound.responses = s.inbound.responses ++ more) ∧
      t.notices.queue = s.notices.queue ∧ t.notices.seq = s.notices.seq := by
  have both := h.keeps (P := fun u => u.member.state = .leaving ∧ u.inbound.queue = [] ∧ u.inbound.engine = .idle ∧
    u.inbound.dataSlot = s.inbound.dataSlot ∧ (∃ more, u.inbound.responses = s.inbound.responses ++ more) ∧
      u.notices.queue = s.notices.queue ∧ u.notices.seq = s.notices.seq)
    (fun u v w ⟨state, empty, engine, slot, ⟨more, responses⟩, waiting⟩ => ?_) (fun u v w hu => ?_)
    ⟨leaving, queue, idle, rfl, ⟨[], (List.append_nil _).symm⟩, rfl, rfl⟩
  · exact both.2
  · cases w with
    | notice src code online => rw [state] at online; cases online
    | enqueue r online => rw [state] at online; cases online
    | engine e _ head => exact absurd empty head
    | respond r =>
      refine ⟨state, empty, engine, slot, ⟨more ++ [r], ?_⟩, waiting⟩
      rw [← List.append_assoc, ← responses]
      rfl
    | _ => exact ⟨state, empty, engine, slot, ⟨more, responses⟩, waiting⟩
  · cases w with
    | queue => exact hu

/-- Settles O49. -/
theorem drainLimitEndsTheDrain : Obligations.DrainLimitEndsTheDrain := by
  intro s high leaving drain
  have shell : exec .drainTimerExpiry s = .next s.forceDrain.settle := by
    rw [exec_takes (i := .drainTimerExpiry) State.drainTimerExpiry rfl high, State.drainTimerExpiry,
      if_pos (by rw [leaving, drain]; decide)]
  have ended := fun c g => forceChannels_ended allChannels s (c := c) (g := g) (by decide) (mem_allChannels c)
  have entries := forceChannels_entry allChannels s
  have own := forceChannels_own allChannels s
  have notices := forceChannels_notices allChannels s
  obtain ⟨v, hv⟩ : ∃ v, v = allChannels.foldl State.forceChannel s := ⟨_, rfl⟩
  obtain ⟨w, hw⟩ : ∃ w, w = v.forceSlot := ⟨_, rfl⟩
  obtain ⟨x, hx⟩ : ∃ x, x = w.forceInbound.endDrain := ⟨_, rfl⟩
  have forced : s.forceDrain = x := by rw [hx, hw, hv]; rfl
  rw [← hv] at ended entries own notices
  clear hv
  have slotOwn : OwnWork v w := by rw [hw]; exact forceSlot_own v
  obtain ⟨beside, inbound⟩ := forceInbound_beside w
  have inboundX : x.inbound = { s.inbound with
      queue := [], responses := s.inbound.responses.filter (·.sending), dataSlot := s.inbound.dataSlot.filter (·.sending)
      engine := .idle } := by
    rw [hx]
    refine inbound.trans ?_
    rw [slotOwn.inbound, own.inbound]
  have memberX : x.member = { s.member with drain := none, control := s.member.control ++ [{ kind := .leave }] } := by
    have same : w.forceInbound.member = s.member := beside.member.trans (slotOwn.member.trans own.member)
    rw [hx]
    change ({ w.forceInbound.member with
      drain := none, control := w.forceInbound.member.control ++ [{ kind := .leave }] } : Membership) = _
    rw [same]
  have noticesX : x.notices = w.notices := by rw [hx]; exact beside.notices
  have entryX : ∀ g, x.entry g = w.entry g := fun g => by rw [hx]; exact entry_congr beside.tracker g
  have channelX : ∀ c, x.channel c = v.channel c := fun c => by
    rw [hx, ← forceSlot_channel v, ← hw]
    exact channel_congr beside.channels c
  have flagX : ∀ f, w.flag f = true → x.flag f = true := fun f set => by
    rw [hx]
    change w.forceInbound.host.latched.getLsbD f.bit = true
    rw [beside.host]
    exact set
  have bufferX : x.rx.buffer <:+ s.rx.buffer := by
    rw [hx]
    change w.forceInbound.rx.buffer <:+ _
    rw [beside.buffer]
    exact slotOwn.buffer.trans own.buffer
  have slotLost : (s.notices.slot.state.isSending = true → SlotLost s x) ∧
      (s.notices.slot.state.isSending = false → x.notices.slot = s.notices.slot) := by
    obtain ⟨lost, kept⟩ := forceSlot_slot v
    rw [notices] at lost kept
    refine ⟨fun sending => ?_, fun quiet => ?_⟩
    · obtain ⟨slot, flag⟩ := lost sending
      exact ⟨by rw [noticesX, hw, slot, notices], flagX _ (by rw [hw]; exact flag)⟩
    · rw [noticesX, hw, kept quiet, notices]
  have queueX : x.notices.queue = s.notices.queue ∧ x.notices.seq = s.notices.seq := by
    rw [noticesX]
    exact ⟨slotOwn.notices.1.trans own.notices.1, slotOwn.notices.2.trans own.notices.2⟩
  have endedX : ∀ (c : ChannelNo) (g : Tag), (s.entry g).owner = .channel c →
      (s.entry g).state = .queued ∨ (s.entry g).state = .live →
      x.channel c = (s.channel c).ended .left none ∧ ((s.channel c).desc.errIrq = true → x.flag (.chErr c) = true) ∧
        EndedAs x c .left ∧ x.entry g = releasedEntry (s.entry g) := by
    intro c g own held
    obtain ⟨channel, flag⟩ := ended c g own held
    have released : ∀ h, (s.entry h).owner = .channel c → x.entry h = releasedEntry (s.entry h) := fun h mine => by
      have eq : v.entry h = releasedEntry (s.entry h) := by
        rw [entries, if_pos ⟨c, mem_allChannels c, mine⟩]
      rw [entryX, hw, forceSlot_entry v (c := c) (by rw [eq, releasedEntry_owner, mine]), eq]
    have owner : ∀ h, (x.entry h).owner = (s.entry h).owner := fun h => by
      cases who : (s.entry h).owner with
      | channel d =>
        have eq : v.entry h = releasedEntry (s.entry h) := by rw [entries, if_pos ⟨d, mem_allChannels d, who⟩]
        rw [entryX, hw, forceSlot_entry v (c := d) (by rw [eq, releasedEntry_owner, who]), eq, releasedEntry_owner, who]
      | host =>
        have eq : v.entry h = s.entry h := by
          rw [entries, if_neg]
          rintro ⟨d, -, no⟩
          rw [who] at no
          cases no
        have released : ∀ u : State, (u.forceSlot.entry h).owner = (u.entry h).owner := fun u => by
          unfold State.forceSlot
          split
          · rw [finishSlot_entry, releaseOwner_entry]
            split
            · exact releasedEntry_owner _
            · rfl
          · rfl
        rw [entryX, hw, released, eq, who]
    have none : OwnsNone x c := fun h mine => by
      rw [owner] at mine
      rw [released h mine]
      exact releasedEntry_not_held _
    exact ⟨(channelX c).trans channel, fun enabled => flagX _ (by rw [hw]; exact forceSlot_keeps_flag v (flag enabled)),
      .of_channel ((channelX c).trans channel) none, released g own⟩
  rw [forced] at shell
  clear hx forced
  have member : x.settle.member = x.member := by
    refine (settleFrom_drain x _).trans (if_neg ?_)
    rintro ⟨-, running, -⟩
    rw [memberX] at running
    exact running rfl
  obtain ⟨u, inside, eq⟩ := settleFrom_eq x x.port.fetches
  obtain ⟨queue, engine, slot, ⟨more, responses⟩, waiting, seq⟩ := inside.leaving (by rw [memberX]; exact leaving)
    (by rw [inboundX]) (by rw [inboundX])
  have inboundT : x.settle.inbound = u.inbound := by
    rw [State.settle, eq]
    exact checkDrain_inbound u
  have noticesT : x.settle.notices = u.notices := by
    rw [State.settle, eq]
    exact checkDrain_notices u
  refine ⟨_, shell, ?_, ?_, ?_, fun c g own held => ?_, ?_, ?_, ?_, ?_, fun empty => ?_, ⟨more, ?_⟩, ?_, ?_, ?_⟩
  · rw [member, memberX]; exact leaving
  · rw [member, memberX]
  · rw [member, memberX]
  · obtain ⟨channel, flag, done, released⟩ := endedX c g own held
    obtain ⟨kept, owns⟩ := settleFrom_ended x x.port.fetches done.ended done.payload done.owns
    have same : x.settle.channel c = (s.channel c).ended .left none := kept.trans channel
    rw [same]
    refine ⟨rfl, rfl, rfl, fun enabled => settleFrom_flag x _ (flag enabled), owns, fun live empty => ?_⟩
    have abandoned : x.entry g = (s.entry g).abandon := by rw [released, releasedEntry, live]
    have nothing : x.rx.buffer = [] := List.suffix_nil.mp (empty ▸ bufferX)
    refine ((settleFrom_quiet_of_empty nothing _).abandoned g (by rw [abandoned]; rfl)).trans ?_
    rw [abandoned]
    rfl
  · obtain ⟨lost, kept⟩ := slotLost
    cases state : s.notices.slot.state with
    | sending p =>
      obtain ⟨slot, flag⟩ := lost (by rw [state]; rfl)
      exact ⟨(settleFrom_slot x _ (by rw [slot]; rfl)).trans slot, settleFrom_flag x _ flag⟩
    | idle =>
      have same := kept (by rw [state]; rfl)
      exact (settleFrom_slot x _ (by rw [same, state]; rfl)).trans same
    | done =>
      have same := kept (by rw [state]; rfl)
      exact (settleFrom_slot x _ (by rw [same, state]; rfl)).trans same
  · rw [inboundT, queue]
  · rw [inboundT, slot, inboundX]
  · rw [inboundT, engine]
  · have nothing : x.rx.buffer = [] := List.suffix_nil.mp (empty ▸ bufferX)
    have quiet : x.settle.inbound = taken x.inbound := (settleFrom_quiet_of_empty nothing _).inbound
    rw [quiet, inboundX]
    rfl
  · rw [inboundT, responses, inboundX]
  · rw [noticesT, waiting, queueX.1]
  · rw [noticesT, seq, queueX.2]
  · rw [member, memberX]

/-! ## A bus error (R22, R57, R77, R79, R178, R179) -/

theorem exec_busError {s : State} {b : Burst} (burst : s.port.state = .burst b) :
    exec .busError s = .next ((s.releaseBus).reportError b).settle := by
  change execBusError s = _
  unfold execBusError
  rw [burst]
  rfl

theorem releaseBus_eq (s : State) : s.releaseBus = { s with port := { s.port with
    state := if s.port.landing = none ∧ s.port.service = none ∧ s.port.fetches = [] then .free else .requesting } } := by
  rw [State.releaseBus, released_eq]

theorem reportError_of_live {s : State} {b : Burst} (live : b.cancelled = false) : s.reportError b =
    match b.requester with
    | .landing => s.landingError
    | .service => s.serviceError
    | .fetch c => s.endChannel c .localFault none := if_neg (by rw [live]; decide)

theorem serviceError_of_head {s : State} {r : InRequest} {rest : List InRequest} (head : s.inbound.queue = r :: rest)
    (busy : s.inbound.engine = .writing ∨ ∃ n : Nat, s.inbound.engine = .reading n) :
    s.serviceError = s.engineAnswer { dest := r.src, tag := r.tag, answer := .refuse .localError } := by
  unfold State.serviceError
  rw [head]
  dsimp only
  rcases busy with engine | ⟨n, engine⟩ <;> rw [engine]

/-- A landing that fails: its entry is abandoned, its frame leaves the buffer, its channel ends LOCAL_FAULT (R22, R57). -/
theorem landingError_of_record {s : State} {c : ChannelNo} {g : Tag} {r : SegRecord} (landing : s.landingTag = some g)
    (own : (s.entry g).owner = .channel c) (notice : (s.channel c).notice = none) (found : (s.channel c).recordOf g = some r) :
    s.landingError = ((s.setEntry g (s.entry g).abandon).popBuffer).endChannel c .localFault none := by
  unfold State.landingError
  rw [landing]
  dsimp only
  rw [own, State.report, State.channelResult]
  rw [show (((s.setEntry g (s.entry g).abandon).popBuffer).channel c).notice = none from notice,
    show (((s.setEntry g (s.entry g).abandon).popBuffer).channel c).recordOf g = some r from found]
  rfl

/-- Where no entry that a channel owns is landing, its end leaves the Receive Buffer. -/
theorem endChannel_buffer {s : State} {c : ChannelNo} (none : ∀ g, isLanding c (s.entry g) = false) (k : TermCode)
    (r : Option RefuseReason) : (s.endChannel c k r).rx.buffer = s.rx.buffer := by
  obtain ⟨-, rx, -, -⟩ := endChannel_blocks s c k r
  rw [rx, releaseOwner_eq, releases_buffer c allTags_nodup]
  simp only [none]
  rw [List.countP_false, Function.const_apply, List.drop_zero]

theorem endChannel_ram (s : State) (c : ChannelNo) (k : TermCode) (r : Option RefuseReason) :
    (s.endChannel c k r).ramWrites = s.ramWrites := by
  obtain ⟨-, -, -, -, -, -, -, -, -, -, -, written, -⟩ := endChannel_same s c k r
  exact written

theorem settle_ram (s : State) : s.settle.ramWrites = s.ramWrites := by
  obtain ⟨-, -, -, -, -, -, -, -, -, -, -, written, -⟩ := settleFrom_same s s.port.fetches
  exact written

/-- Settles O54. -/
theorem busErrorEndsTheBurst : Obligations.BusErrorEndsTheBurst := by
  intro b s u
  have released : s.releaseBus = u := releaseBus_eq s
  have shell : s.port.state = .burst b → exec .busError s = .next (u.reportError b).settle := fun burst => by
    rw [exec_busError burst, released]
  clear_value u
  refine ⟨fun burst cancelled => ?_, fun c burst live fetch => ?_, fun r rest burst live service busy head room => ?_,
    fun r rest burst live service busy head full => ?_, fun c g r f rest burst live landing tag head own notice found => ?_,
    fun free => ?_⟩
  · rw [shell burst, State.reportError, if_pos cancelled]
  · have channel : u.channel c = s.channel c := by rw [← released]; rfl
    have ram : u.ramWrites = s.ramWrites := by rw [← released]; rfl
    have report : u.reportError b = u.endChannel c .localFault none := by rw [reportError_of_live live, fetch]
    have ended := endedAs_endChannel u c .localFault none
    have self := endChannel_channel_self u c .localFault none
    obtain ⟨kept, owns⟩ := settleFrom_ended _ (u.endChannel c .localFault none).port.fetches ended.ended ended.payload ended.owns
    have settled : (u.endChannel c .localFault none).settle.channel c = (u.channel c).ended .localFault none := kept.trans self
    refine ⟨_, by rw [shell burst, report], ?_, ?_, ?_, (settle_ram _).trans ((endChannel_ram u c _ _).trans ram), owns⟩ <;>
      rw [settled, channel] <;> rfl
  · have inbound : u.inbound = s.inbound := by rw [← released]; rfl
    rw [shell burst, reportError_of_live live, service]
    dsimp only
    rw [serviceError_of_head (by rw [inbound]; exact head) (by rw [inbound]; exact busy),
      engineAnswer_of_room (by rw [inbound]; exact room), inbound, head]
    rfl
  · have inbound : u.inbound = s.inbound := by rw [← released]; rfl
    rw [shell burst, reportError_of_live live, service]
    dsimp only
    rw [serviceError_of_head (by rw [inbound]; exact head) (by rw [inbound]; exact busy),
      engineAnswer_of_full (by rw [inbound]; exact full), inbound]
  · have entry : ∀ h, u.entry h = s.entry h := fun h => by rw [← released]; rfl
    have channel : u.channel c = s.channel c := by rw [← released]; rfl
    have ram : u.ramWrites = s.ramWrites := by rw [← released]; rfl
    have buffer : u.rx.buffer = s.rx.buffer := by rw [← released]; rfl
    have marked : u.landingTag = some g := by rw [← released]; exact tag
    obtain ⟨v, hv⟩ : ∃ v : State, v = (u.setEntry g (u.entry g).abandon).popBuffer := ⟨_, rfl⟩
    have report : u.reportError b = v.endChannel c .localFault none := by
      rw [reportError_of_live live, landing, hv]
      exact landingError_of_record marked (by rw [entry]; exact own) (by rw [channel]; exact notice) (by rw [channel]; exact found)
    have entryV : ∀ h, v.entry h = if h = g then (s.entry g).abandon else s.entry h := fun h => by
      rw [hv, ← entry h, ← entry g]
      exact entry_setEntry u g h _
    have channelV : v.channel c = s.channel c := by rw [hv, ← channel]; rfl
    have bufferV : v.rx.buffer = rest := by
      rw [hv]
      change u.rx.buffer.tail = rest
      rw [buffer, head, List.tail_cons]
    have ramV : v.ramWrites = s.ramWrites := by rw [hv, ← ram]; rfl
    have ended := endedAs_endChannel v c .localFault none
    have self := endChannel_channel_self v c .localFault none
    have abandoned : (v.endChannel c .localFault none).entry g = (s.entry g).abandon := by
      rw [endChannel_entry, entryV, if_pos rfl, if_pos (show (s.entry g).abandon.owner = _ from own)]
      rfl
    have written : (v.endChannel c .localFault none).ramWrites = s.ramWrites := (endChannel_ram v c _ _).trans ramV
    have suffix : (v.endChannel c .localFault none).rx.buffer <:+ rest := bufferV ▸ (endChannel_own v c _ _).buffer
    obtain ⟨kept, owns⟩ := settleFrom_ended _ (v.endChannel c .localFault none).port.fetches ended.ended ended.payload ended.owns
    refine ⟨v.endChannel c .localFault none, by rw [shell burst, report], abandoned, by rw [self, channelV]; rfl, fun only => ?_,
      written, kept, (settle_ram _).trans written, owns, fun last => ?_⟩
    · refine (endChannel_buffer (fun h => ?_) _ _).trans bufferV
      rw [entryV]
      split
      · simp [isLanding, Entry.abandon]
      · next other =>
        have clear : (s.entry h).landingMark = false := by
          rw [← Bool.not_eq_true]
          exact fun mark => other (only h mark)
        simp [isLanding, clear]
    · have nothing : (v.endChannel c .localFault none).rx.buffer = [] := List.suffix_nil.mp (last ▸ suffix)
      have quiet := settleFrom_quiet_of_empty nothing (v.endChannel c .localFault none).port.fetches
      exact ⟨quiet.abandoned g (by rw [abandoned]; rfl), List.suffix_nil.mp (nothing ▸ quiet.buffer)⟩
  · change execBusError s = _
    unfold execBusError
    rw [free]
    rfl

end Sys2Proof.Proofs
end


section
/-!
The outcomes of a segment and of an end notice, written out (R17 to R26, R33).
-/

set_option Elab.async false

namespace Sys2Proof.Proofs

open Sys2Proof Sys2Proof.Machine Sys2Proof.Safety Sys2Proof.Laws

/-! ## The record that holds the tag -/

section
variable {ch : Channel} {g : Tag} {r : SegRecord} {before after : List SegRecord}

theorem recordOf_of_append (records : ch.records = before ++ r :: after) (outstanding : r.state = .outstanding g)
    (alone : ∀ x ∈ before ++ after, x.state ≠ .outstanding g) : ch.recordOf g = some r := by
  rw [Channel.recordOf, records, List.find?_eq_some_iff_append]
  exact ⟨decide_eq_true outstanding, before, after, rfl, fun x there => by
    simp [alone x (List.mem_append_left _ there)]⟩

theorem updateRecord_of_append (records : ch.records = before ++ r :: after) (outstanding : r.state = .outstanding g)
    (alone : ∀ x ∈ before ++ after, x.state ≠ .outstanding g) (f : SegRecord → SegRecord) :
    ch.updateRecord g f = { ch with records := before ++ f r :: after } := by
  have kept : ∀ l : List SegRecord, (∀ x ∈ l, x.state ≠ .outstanding g) →
      (l.map fun r => if r.state = .outstanding g then f r else r) = l := fun l none =>
    (List.map_congr_left fun x there => if_neg (none x there)).trans (List.map_id' l)
  rw [Channel.updateRecord, records, List.map_append, List.map_cons, if_pos outstanding,
    kept before fun x there => alone x (List.mem_append_left _ there),
    kept after fun x there => alone x (List.mem_append_right _ there)]

end

theorem report_of_record {s : State} {c : ChannelNo} {g : Tag} {r : SegRecord} (notice : (s.channel c).notice = none)
    (found : (s.channel c).recordOf g = some r) (res : Result) : s.report (.channel c) g res = s.segmentResult c g r res := by
  rw [State.report, State.channelResult]
  rw [notice, found]

theorem report_of_notice {s : State} {c : ChannelNo} {g : Tag} {n : NoticeRecord} (notice : (s.channel c).notice = some n)
    (tagged : n.phase = .tagged g) (res : Result) : s.report (.channel c) g res = s.noticeResult c n res := by
  rw [State.report, State.channelResult]
  rw [notice]
  exact if_pos tagged

/-! ## The front advances over the DONE records (R17, R33) -/

theorem le_of_tiles {a b : Nat} {l : List SegRecord} (tiles : Tiles a b l) : a ≤ b := by
  induction l generalizing a with
  | nil => exact tiles.le
  | cons r l ih =>
    obtain ⟨-, -, rest⟩ := tiles
    exact (Nat.le_add_right a r.length).trans (ih rest)

theorem popDone_of_run {a b : Nat} {run rest : List SegRecord} (tiles : Tiles a b run) (done : ∀ x ∈ run, x.state = .done)
    (stop : ∀ x, rest.head? = some x → x.state ≠ .done) : popDone a (run ++ rest) = (b, rest) := by
  induction run generalizing a with
  | nil =>
    cases tiles
    cases rest with
    | nil => rfl
    | cons x rest => exact if_neg fun h => stop x rfl h.2
  | cons r run ih =>
    obtain ⟨offset, -, tiles⟩ := tiles
    rw [List.cons_append, popDone, if_pos ⟨offset, done r List.mem_cons_self⟩]
    exact ih tiles fun x there => done x (List.mem_cons_of_mem r there)

/-- The current remote address at a front; at the top of the remote space it is left open (log entry 21). -/
def remoteFront (d : Descriptor) (front : Nat) : BitVec 24 :=
  match d.remoteMode with
  | .increment => d.remoteAfter front
  | .fixed => d.remote

theorem remoteFront_eq (d : Descriptor) (front : Nat) (below : d.remoteMode = .increment → d.remote.toNat + front < 0x1000000) :
    remoteFront d front = if d.remoteMode = .increment then d.remote + BitVec.ofNat 24 front else d.remote := by
  unfold remoteFront
  cases mode : d.remoteMode with
  | increment => exact if_pos (show _ < Config.remoteSpace from below mode)
  | fixed => rfl

/-- The current local address at a front. -/
def localFront (d : Descriptor) (front : Nat) : BitVec 32 :=
  match d.localMode with
  | .increment => d.localAddr + BitVec.ofNat 32 front
  | .fixed => d.localAddr

theorem localFront_eq (d : Descriptor) (front : Nat) :
    localFront d front = if d.localMode = .increment then d.localAddr + BitVec.ofNat 32 front else d.localAddr := by
  unfold localFront
  cases d.localMode <;> rfl

/-- A channel whose front has advanced. -/
def advanced (ch : Channel) (front : Nat) (remote : BitVec 24) (l : List SegRecord) : Channel :=
  { ch with
    records := l, front := front, remaining := ch.desc.length.toNat - front, curRemote := remote
    curLocal := if ch.desc.localMode = .increment then ch.desc.localAddr + BitVec.ofNat 32 front else ch.desc.localAddr }

theorem advance_of_pop {ch : Channel} {front : Nat} {l : List SegRecord} (pop : popDone ch.front ch.records = (front, l))
    (moved : front ≠ ch.front) : ch.advance = advanced ch front (remoteFront ch.desc front) l := by
  unfold Channel.advance advanced
  dsimp only
  rw [pop, if_neg moved, ← localFront_eq]
  rfl

theorem advance_of_gap {ch : Channel} {x : SegRecord} {l : List SegRecord} (records : ch.records = x :: l)
    (gap : x.state ≠ .done) : ch.advance = ch := by
  have pop : popDone ch.front ch.records = (ch.front, x :: l) := by
    rw [records, popDone, if_neg fun h => gap h.2]
  unfold Channel.advance
  dsimp only
  rw [pop, if_pos rfl]

/-- A result that ends the channel, with what the end writes (R18 to R23). -/
theorem segmentResult_ends {s t : State} {c : ChannelNo} {code : TermCode} {reason : Option RefuseReason}
    (eq : t = s.endChannel c code reason) :
    t.channel c = { s.channel c with
      state := .off, code := code, reason := reason, latch := false, pause := false, waiting := false
      records := [], notice := none, payload := none } ∧
    (∀ e : ChannelNo, e ≠ c → t.channel e = s.channel e) ∧ ((s.channel c).desc.errIrq = true → t.flag (.chErr c) = true) ∧
    ∀ h : Tag, (t.entry h).owner = .channel c → (t.entry h).state ≠ .queued ∧ (t.entry h).state ≠ .live := by
  rw [eq]
  exact ⟨endChannel_channel_self s c _ _, fun e other => endChannel_channel_other s other _ _, endChannel_flag s c _ _,
    ownsNone_endChannel s c _ _⟩

/-- A completion that leaves bytes to do. -/
theorem completeSegment_of_below {s : State} {c : ChannelNo} {g : Tag} {ch : Channel}
    (channel : ((s.channel c).updateRecord g fun r => { r with state := .done }).advance = ch)
    (below : ch.front < ch.desc.length.toNat) : s.completeSegment c g = s.setChannel c ch := by
  rw [State.completeSegment, State.modifyChannel, channel, State.transferEnd]
  rw [channel_setChannel_self, if_neg (Nat.ne_of_lt below)]

/-- A completion behind a gap. -/
theorem completeSegment_of_gap {s : State} {c : ChannelNo} {g : Tag} {x : SegRecord} {l : List SegRecord} {ch : Channel}
    (update : ((s.channel c).updateRecord g fun r => { r with state := .done }) = ch) (records : ch.records = x :: l)
    (gap : x.state ≠ .done) (below : ch.front < ch.desc.length.toNat) : s.completeSegment c g = s.setChannel c ch :=
  completeSegment_of_below (update.symm ▸ advance_of_gap records gap) below

/-- The completion of the last byte. -/
theorem completeSegment_of_end {s : State} {c : ChannelNo} {g : Tag} {ch : Channel}
    (channel : ((s.channel c).updateRecord g fun r => { r with state := .done }).advance = ch)
    (end_ : ch.front = ch.desc.length.toNat) : s.completeSegment c g =
      if ch.desc.endNotice then s.setChannel c { ch with state := .notifying, waiting := false, notice := some {} }
      else (s.setChannel c (if ch.desc.reload then ch.reloaded else ch.ended .normal none)).raiseIf ch.desc.endIrq (.chEnd c) := by
  rw [State.completeSegment, State.modifyChannel, channel, State.transferEnd, State.normalEnd, State.modifyChannel,
    State.modifyChannel]
  rw [channel_setChannel_self, if_pos end_, setChannel_setChannel, setChannel_setChannel]

theorem raiseIf_host (s : State) (p : Bool) (f : EventFlag) :
    s.raiseIf p f = { s with host := { s.host with latched := (s.raiseIf p f).host.latched } } := by
  unfold State.raiseIf
  split <;> rfl

theorem raiseIf_flag {s : State} {p : Bool} {f : EventFlag} (set : p = true) : (s.raiseIf p f).flag f = true := by
  rw [set]
  exact flag_raise_self s f

theorem normalEnd_channel (s : State) (c : ChannelNo) : (s.normalEnd c).channel c =
    if (s.channel c).desc.reload then (s.channel c).reloaded else (s.channel c).ended .normal none := by
  rw [State.normalEnd, raiseIf_channel, channel_modifyChannel_self]

theorem failSegment_of_below {s : State} {c : ChannelNo} {r : SegRecord} (few : r.attempts < (s.channel c).desc.retryLimit.toNat)
    (g : Tag) (code : TermCode) : s.failSegment c g r code =
      s.modifyChannel c fun ch => ch.updateRecord g fun r => { r with state := .pending, attempts := r.attempts + 1 } :=
  if_pos few

theorem noticeTimeout_of_below {s : State} {c : ChannelNo} {n : NoticeRecord}
    (few : n.attempts < (s.channel c).desc.retryLimit.toNat) : s.noticeResult c n .timeout =
      s.setNotice c { n with phase := .waiting, attempts := n.attempts + 1 } := if_pos few

theorem busySegment_of_below {s : State} {c : ChannelNo} {r : SegRecord} (few : r.busy < 15) (g : Tag) :
    s.busySegment c g r = s.modifyChannel c fun ch => ch.updateRecord g fun x =>
      { x with state := .backoff (Config.backoffUnit * (x.busy + 1)), busy := x.busy + 1 } :=
  if_pos (show r.busy + 1 ≤ Config.busyLimit from few)

theorem busyNotice_of_below {s : State} {n : NoticeRecord} (few : n.busy < 15) (c : ChannelNo) (reason : RefuseReason) :
    s.busyNotice c n reason =
      s.setNotice c { n with phase := .backoff (Config.backoffUnit * (n.busy + 1)), busy := n.busy + 1 } :=
  if_pos (show n.busy + 1 ≤ Config.busyLimit from few)

theorem failSegment_of_limit {s : State} {c : ChannelNo} {r : SegRecord} (many : (s.channel c).desc.retryLimit.toNat ≤ r.attempts)
    (g : Tag) (code : TermCode) : s.failSegment c g r code = s.endChannel c code none :=
  if_neg (Nat.not_le.mpr (Nat.lt_succ_of_le many))

theorem noticeTimeout_of_limit {s : State} {c : ChannelNo} {n : NoticeRecord}
    (many : (s.channel c).desc.retryLimit.toNat ≤ n.attempts) :
    s.noticeResult c n .timeout = s.endChannel c .noticeFailed none :=
  if_neg (Nat.not_le.mpr (Nat.lt_succ_of_le many))

theorem busySegment_of_limit {s : State} {c : ChannelNo} {r : SegRecord} (many : 15 ≤ r.busy) (g : Tag) :
    s.busySegment c g r = s.endChannel c .refused (some .busy) :=
  if_neg (show ¬ r.busy + 1 ≤ Config.busyLimit from fun few => absurd few (Nat.not_le.mpr (Nat.lt_succ_of_le many)))

theorem busyNotice_of_limit {s : State} {n : NoticeRecord} (many : 15 ≤ n.busy) (c : ChannelNo) (reason : RefuseReason) :
    s.busyNotice c n reason = s.endChannel c .noticeFailed (some reason) :=
  if_neg (show ¬ n.busy + 1 ≤ Config.busyLimit from fun few => absurd few (Nat.not_le.mpr (Nat.lt_succ_of_le many)))

/-- Settles O51. -/
theorem segmentOutcomes : Obligations.SegmentOutcomes := by
  refine ⟨?_, ?_⟩
  · intro c g r before after s ch d total becomes ends moved remoteAt notice records outstanding alone
    have found : ch.recordOf g = some r := recordOf_of_append records outstanding alone
    have update := updateRecord_of_append records outstanding alone
    have report : ∀ res, s.report (.channel c) g res = s.segmentResult c g r res := report_of_record notice found
    have rewrites : ∀ f : SegRecord → SegRecord, (s.modifyChannel c fun ch => ch.updateRecord g f) = becomes (f r) := fun f =>
      congrArg (s.setChannel c) (update f)
    have ends_of : ∀ {res : Result} {code : TermCode} {reason : Option RefuseReason},
        s.segmentResult c g r res = s.endChannel c code reason → ends res code reason := fun eq =>
      segmentResult_ends ((report _).trans eq)
    refine ⟨fun few res fails => ?_, fun many => ⟨?_, ?_⟩, fun few => ?_, fun many => ?_, fun reason other => ?_, ?_, ?_,
      fun x more first gap below => ?_, fun run rest front leading following offset bytes done tiles stop => ?_⟩
    · refine (report res).trans ?_
      rcases fails with rfl | rfl
      · exact (failSegment_of_below few _ _).trans (rewrites fun r => { r with state := .pending, attempts := r.attempts + 1 })
      · exact (failSegment_of_below few _ _).trans (rewrites fun r => { r with state := .pending, attempts := r.attempts + 1 })
    · exact ends_of (failSegment_of_limit many _ _)
    · exact ends_of (failSegment_of_limit many _ _)
    · refine ((report (.refused .busy)).trans (busySegment_of_below (s := s) (c := c) few g)).trans ?_
      exact rewrites fun r => { r with state := .backoff (Config.backoffUnit * (r.busy + 1)), busy := r.busy + 1 }
    · exact ends_of (busySegment_of_limit many g)
    · refine ends_of ?_
      cases reason with
      | busy => exact absurd rfl other
      | _ => rfl
    · exact ends_of rfl
    · exact ends_of rfl
    · refine (report .completed).trans
        (completeSegment_of_gap (x := x) (l := more ++ { r with state := .done } :: after)
          (update fun r => { r with state := .done }) (by rw [first]; rfl) gap below)
    · have eq := update fun r => { r with state := .done }
      have forward : ch.front < front := (Nat.lt_add_of_pos_right bytes).trans_le (le_of_tiles tiles)
      have pop : popDone ch.front (before ++ { r with state := .done } :: after) = (front, rest) := by
        rw [leading, List.nil_append, popDone, if_pos ⟨offset, rfl⟩, following]
        exact popDone_of_run tiles done stop
      obtain ⟨remote, hremote⟩ : ∃ remote, remote = remoteFront d front := ⟨_, rfl⟩
      have moves : ((s.channel c).updateRecord g fun r => { r with state := .done }).advance = moved front remote rest := by
        rw [eq, advance_of_pop (ch := { ch with records := before ++ { r with state := .done } :: after }) pop
          (Nat.ne_of_gt forward), hremote]
        rfl
      have at_ : (d.remoteMode = .increment → d.remote.toNat + front < 0x1000000) → remote = remoteAt front := fun below => by
        rw [hremote]
        exact remoteFront_eq d front below
      have completes : s.report (.channel c) g .completed = s.completeSegment c g := report _
      refine ⟨fun below space => ?_, fun last empty => ?_⟩
      · exact completes.trans ((completeSegment_of_below moves below).trans
          (congrArg (fun remote => s.setChannel c (moved front remote rest)) (at_ space)))
      · intro t
        have full : t = _ := completes.trans (completeSegment_of_end moves last)
        clear_value t
        rw [last, empty] at full
        refine ⟨remote, fun space => ?_, fun noted => ?_, fun plain => ?_⟩
        · rw [at_ (by rw [last]; exact space), last]
        · rw [full, if_pos (show d.endNotice = true from noted)]
        · rw [if_neg (show ¬ d.endNotice = true by rw [plain]; decide)] at full
          have channel : t.channel c = if d.reload then (moved total remote []).reloaded
              else (moved total remote []).ended .normal none := by
            rw [full, raiseIf_channel, channel_setChannel_self]
          refine ⟨?_, fun enabled => ?_, fun silent => ?_, fun single => ?_, fun again => ?_⟩
          · rw [channel, full]
            exact raiseIf_host _ _ _
          · rw [full]
            exact raiseIf_flag enabled
          · rw [full, show (moved total remote []).desc.endIrq = false from silent]
            rfl
          · rw [channel, if_neg (by rw [single]; decide), Channel.ended]
            rw [← notice]
          · rw [channel, if_pos again, Channel.reloaded]
            rw [← notice]
  · intro c g n s ch failed notice tagged
    have report : ∀ res, s.report (.channel c) g res = s.noticeResult c n res := report_of_notice notice tagged
    have fails : ∀ {res : Result} {reason : Option RefuseReason}, s.noticeResult c n res = s.endChannel c .noticeFailed reason →
        (s.report (.channel c) g res).channel c = failed reason := fun eq => by
      rw [report, eq]
      exact endChannel_channel_self s c _ _
    refine ⟨?_, fun few => ?_, fun many => ?_, fun reason => ⟨fun full few => ?_, fun other => ?_⟩, fails rfl, fun enabled => ?_⟩
    · have channel := normalEnd_channel s c
      intro t
      have eq : t = s.normalEnd c := report _
      clear_value t
      rw [← eq] at channel
      refine ⟨?_, ?_, ?_, fun single => ?_, fun again => ?_, fun enabled => ?_⟩
      · rw [channel]; split <;> rfl
      · rw [channel]; split <;> rfl
      · rw [channel]; split <;> rfl
      · rw [channel, if_neg (show ¬ ch.desc.reload = true by rw [single]; decide)]
        rfl
      · rw [channel, if_pos (show ch.desc.reload = true from again)]
        exact ⟨rfl, rfl, rfl, rfl⟩
      · rw [eq]
        exact raiseIf_flag enabled
    · exact (report _).trans (noticeTimeout_of_below few)
    · exact fails (noticeTimeout_of_limit many)
    · refine (report _).trans ?_
      rcases full with rfl | rfl
      · exact busyNotice_of_below few c .busy
      · exact busyNotice_of_below few c .noticeFull
    · refine fails ?_
      have limit : reason = .busy ∨ reason = .noticeFull → 15 ≤ n.busy := fun full =>
        other.elim (fun ⟨notBusy, notFull⟩ => (full.elim notBusy notFull).elim) id
      cases reason with
      | busy => exact busyNotice_of_limit (limit (.inl rfl)) c .busy
      | noticeFull => exact busyNotice_of_limit (limit (.inr rfl)) c .noticeFull
      | _ => rfl
    · have eq : s.report (.channel c) g .peerLost = s.endChannel c .noticeFailed none := report _
      rw [eq]
      exact endChannel_flag s c _ _ enabled

end Sys2Proof.Proofs
end


section
/-!
The owners that wait, one by one: what an offer or an end without a tag leaves of the others, what the channels' asking leaves,
and that the owners told of an unusable peer are all of those a FREE tag reaches.
-/

set_option Elab.async false

namespace Sys2Proof.Proofs

open Sys2Proof Sys2Proof.Machine Sys2Proof.Safety Sys2Proof.Laws

/-! ## What waiting reads -/

theorem startDue_congr {s t : State} {c : ChannelNo} (channel : t.channel c = s.channel c) (member : t.member = s.member)
    (hold : t.holdDepth = s.holdDepth) : t.startDue c = s.startDue c := by
  rw [State.startDue, State.startDue, channel, member, hold]

theorem mayIssue_congr {s t : State} {c : ChannelNo} (channel : t.channel c = s.channel c) (member : t.member = s.member)
    (hold : t.holdDepth = s.holdDepth) (queued : t.ownsQueued (.channel c) = s.ownsQueued (.channel c)) :
    t.mayIssue c = s.mayIssue c := by
  rw [State.mayIssue, State.mayIssue, channel, member, hold, queued]

theorem wantsTag_congr {s t : State} {c : ChannelNo} (channel : t.channel c = s.channel c) (member : t.member = s.member)
    (hold : t.holdDepth = s.holdDepth) (queued : t.ownsQueued (.channel c) = s.ownsQueued (.channel c)) :
    t.wantsTag c = s.wantsTag c := by
  unfold State.wantsTag
  rw [channel, member, hold, queued, mayIssue_congr channel member hold queued]

theorem wantsTag_of_notifying {s : State} {c : ChannelNo} (notifying : (s.channel c).state = .notifying)
    (wants : s.wantsTag c = true) : ∃ n, (s.channel c).notice = some n ∧ n.phase = .waiting := by
  unfold State.wantsTag at wants
  dsimp only at wants
  rw [notifying] at wants
  cases notice : (s.channel c).notice with
  | none => simp [notice] at wants
  | some n => exact ⟨n, rfl, by simpa [notice] using (Bool.and_eq_true_iff.mp wants).2⟩

/-- A channel asks for a segment or for its end notice. -/
theorem state_of_wantsTag {s : State} {c : ChannelNo} (wants : s.wantsTag c = true) :
    (s.channel c).state = .running ∨ (s.channel c).state = .notifying := by
  unfold State.wantsTag at wants
  dsimp only at wants
  split at wants
  · next h => exact .inl h
  · next h => exact .inr h
  · cases wants

theorem ownsQueued_iff (s : State) (o : Owner) :
    s.ownsQueued o = true ↔ ∃ g, (s.entry g).owner = o ∧ (s.entry g).state = .queued := by
  simp only [State.ownsQueued, List.any_eq_true, Bool.and_eq_true, decide_eq_true_eq, mem_allTags, true_and]

theorem ownsQueued_of_same {s t : State} {o : Owner}
    (same : ∀ g, (t.entry g).owner = o ∧ (t.entry g).state = .queued ↔ (s.entry g).owner = o ∧ (s.entry g).state = .queued) :
    t.ownsQueued o = s.ownsQueued o := by
  rw [Bool.eq_iff_iff, ownsQueued_iff, ownsQueued_iff]
  exact exists_congr same

theorem lowestFree_iff (s : State) : s.lowestFree = none ↔ ∀ g, (s.entry g).state ≠ .free := by
  rw [State.lowestFree, List.find?_eq_none]
  simp [mem_allTags]

/-- The tags are listed from the lowest. -/
theorem allTags_sorted : allTags.Pairwise (· < ·) := by decide

theorem le_of_lowestFree {s : State} {g x : Tag} (lowest : s.lowestFree = some g) (free : (s.entry x).state = .free) : g ≤ x := by
  obtain ⟨-, before, after, order, none⟩ := List.find?_eq_some_iff_append.mp lowest
  have there : x ∈ before ++ g :: after := order ▸ mem_allTags x
  rcases List.mem_append.mp there with h | h
  · have := none x h
    simp [free] at this
  · rcases List.mem_cons.mp h with rfl | h
    · exact le_rfl
    · have sorted := allTags_sorted
      rw [order] at sorted
      exact (List.rel_of_pairwise_cons (List.pairwise_append.mp sorted).2.1 h).le

/-! ## One owner is served -/

/-- What an offer to an owner, or its end without a tag, leaves: it waits no longer, and of the others nothing changes. -/
structure Served (o : Owner) (s t : State) : Prop where
  member : t.member = s.member
  hold : t.holdDepth = s.holdDepth
  inbound : t.inbound = s.inbound
  channels : ∀ d, o ≠ .channel d → t.channel d = s.channel d
  ownsQueued : ∀ d, o ≠ .channel d → t.ownsQueued (.channel d) = s.ownsQueued (.channel d)
  slot : o ≠ .host → t.notices.slot = s.notices.slot
  channel : ∀ c, o = .channel c → (t.channel c).waiting = false ∧ t.wantsTag c = false ∧ (t.channel c).state ≠ .armed
  host : o = .host → t.slotWaits = false
  free : ∀ g, (t.entry g).state = .free → (s.entry g).state = .free
  queued : ∀ g, (s.entry g).state = .queued → t.entry g = s.entry g

/-- An owner is served with the tag `g`. -/
structure Given (o : Owner) (g : Tag) (s t : State) : Prop extends Served o s t where
  others : ∀ x, x ≠ g → t.entry x = s.entry x
  entry : (t.entry g).state = .queued ∧ (t.entry g).owner = o
  rx : t.rx = s.rx

section
variable {s t : State} {o p : Owner}

theorem Served.wantsTag (h : Served o s t) {d : ChannelNo} (other : o ≠ .channel d) : t.wantsTag d = s.wantsTag d :=
  wantsTag_congr (h.channels d other) h.member h.hold (h.ownsQueued d other)

theorem Served.waits_self (h : Served o s t) : t.waits o = false := by
  cases o with
  | channel c => exact waits_channel_of_not_waiting (h.channel c rfl).1
  | host => exact h.host rfl

theorem Served.waits_other (h : Served o s t) (other : p ≠ o) : t.waits p = s.waits p := by
  cases p with
  | channel d =>
    have apart : o ≠ .channel d := fun e => other e.symm
    rw [State.waits, State.waits, h.channels d apart, h.wantsTag apart]
  | host => rw [State.waits, State.waits, State.slotWaits, State.slotWaits, h.slot fun e => other e.symm, h.member]

theorem Served.waits (h : Served o s t) (waits : t.waits p = true) : p ≠ o ∧ s.waits p = true := by
  have other : p ≠ o := by
    rintro rfl
    rw [h.waits_self] at waits
    cases waits
  exact ⟨other, (h.waits_other other).symm.trans waits⟩

theorem Served.peerOf (h : Served o s t) (other : p ≠ o) : t.peerOf p = s.peerOf p := by
  cases p with
  | channel d => rw [State.peerOf, State.peerOf, h.channels d fun e => other e.symm]
  | host => rw [State.peerOf, State.peerOf, h.slot fun e => other e.symm]

theorem peerUsable_congr (member : t.member = s.member) (n : StationNo) : t.peerUsable n = s.peerUsable n := by
  unfold State.peerUsable State.isPresent State.rosterEntry
  rw [member]

end

/-! ### Ends without a tag -/

theorem Working.holdDepth {s t : State} (h : Working s t) : t.holdDepth = s.holdDepth :=
  h.keeps (P := fun u => u.holdDepth = s.holdDepth) (fun u v w e => by cases w <;> exact e) rfl

section
variable {s : State} {o : Owner}

theorem not_queued_of_waits {c : ChannelNo} (waits : s.waits (.channel c) = true) {g : Tag} (own : (s.entry g).owner = .channel c) :
    (s.entry g).state ≠ .queued := fun queued => by
  have none := ownsQueued_of_wantsTag s (Bool.and_eq_true_iff.mp waits).2
  rw [(ownsQueued_iff s _).mpr ⟨g, own, queued⟩] at none
  cases none

/-- An owner that waits has no QUEUED entry, so that its end frees none (R37). -/
theorem served_dropOwner (waits : s.waits o = true) : Served o s (s.dropOwner o) := by
  have own := dropOwner_own s o
  have work := dropOwner_working s (canEnd_of_waits s waits)
  cases o with
  | channel c =>
    have noQueued : ∀ {g : Tag}, (s.entry g).owner = .channel c → (s.entry g).state ≠ .queued := not_queued_of_waits waits
    have entries : ∀ k g, (s.endChannel c k none).entry g =
        if (s.entry g).owner = .channel c then releasedEntry (s.entry g) else s.entry g := fun k g => endChannel_entry s c k none g
    have channel : ∀ k, (s.endChannel c k none).channel c = (s.channel c).ended k none := fun k =>
      endChannel_channel_self s c k none
    have others : ∀ k d, d ≠ c → (s.endChannel c k none).channel d = s.channel d := fun k d other =>
      endChannel_channel_other s other k none
    have notices : ∀ k, (s.endChannel c k none).notices = s.notices := fun k => endChannel_notices s c k none
    unfold State.dropOwner at own work ⊢
    dsimp only at own work ⊢
    generalize (if (s.channel c).state = .notifying then TermCode.noticeFailed else .peerAbsent) = k at own work ⊢
    replace entries := entries k
    replace channel := channel k
    replace others := others k
    replace notices := notices k
    generalize s.endChannel c k none = t at *
    refine ⟨work.member, work.holdDepth, own.inbound, fun d other => others d fun e => other (e ▸ rfl), fun d other => ?_,
      fun _ => by rw [notices], fun d same => ?_, nofun, fun g free => ?_, fun g queued => ?_⟩
    · refine ownsQueued_of_same fun g => ?_
      rw [entries]
      split
      · next mine =>
        rw [releasedEntry_owner, mine]
        exact ⟨fun h => absurd h.1 other, fun h => absurd h.1 other⟩
      · exact Iff.rfl
    · cases same
      rw [channel]
      refine ⟨rfl, ?_, by simp [Channel.ended]⟩
      rw [← Bool.not_eq_true]
      exact fun wants => not_ended_of_wantsTag _ wants (by rw [channel]; rfl)
    · rw [entries] at free
      split at free
      · next mine =>
        have := noQueued mine
        unfold releasedEntry at free
        cases state : (s.entry g).state <;> simp_all [Entry.abandon]
      · exact free
    · rw [entries, if_neg fun mine => noQueued mine queued]
  | host =>
    refine ⟨rfl, rfl, rfl, fun _ _ => rfl, fun _ _ => rfl, fun other => absurd rfl other, nofun, fun _ => ?_,
      fun _ => id, fun _ _ => rfl⟩
    rw [State.slotWaits, State.dropOwner, finishSlot_slot]
    rfl

theorem dropOwner_queued {g : Tag} (queued : ((s.dropOwner o).entry g).state = .queued) : (s.dropOwner o).entry g = s.entry g := by
  cases o with
  | channel c =>
    rw [State.dropOwner, endChannel_entry] at queued ⊢
    split
    · next own =>
      rw [if_pos own] at queued
      exact absurd queued (releasedEntry_not_held _).1
    · rfl
  | host => rfl

/-! ### Tags given -/

/-- A tag given: the channel or the slot is written, and the entry joins the QUEUED order. -/
theorem given_queueEntry {g : Tag} {u : State} {e : Entry} (member : u.member = s.member) (hold : u.holdDepth = s.holdDepth)
    (inbound : u.inbound = s.inbound) (tracker : u.tracker = s.tracker) (rx : u.rx = s.rx)
    (channels : ∀ d, o ≠ .channel d → u.channel d = s.channel d) (slot : o ≠ .host → u.notices.slot = s.notices.slot)
    (channel : ∀ c, o = .channel c → (u.channel c).waiting = false ∧ (u.channel c).state ≠ .armed)
    (host : o = .host → u.slotWaits = false) (free : (s.entry g).state = .free) (owner : e.owner = o) :
    Given o g s (u.queueEntry g e) := by
  have entries : ∀ x, (u.queueEntry g e).entry x = if x = g then { e with state := .queued } else s.entry x := fun x => by
    rw [entry_queueEntry, entry_congr tracker]
  have self : (u.queueEntry g e).entry g = { e with state := .queued } := by rw [entries, if_pos rfl]
  refine ⟨⟨member, hold, inbound, channels, fun d other => ownsQueued_of_same fun x => ?_, slot, fun c same => ?_, host,
    fun x freed => ?_, fun x queued => ?_⟩, fun x other => by rw [entries, if_neg other], by rw [self]; exact ⟨rfl, owner⟩, rx⟩
  · rw [entries]
    split
    · next same =>
      subst same
      rw [free]
      exact ⟨fun h => absurd (owner.symm.trans h.1) other, fun h => by cases h.2⟩
    · exact Iff.rfl
  · obtain ⟨waiting, state⟩ := channel c same
    refine ⟨waiting, ?_, state⟩
    rw [← Bool.not_eq_true]
    intro wants
    have none := ownsQueued_of_wantsTag _ wants
    rw [(ownsQueued_iff _ _).mpr ⟨g, by rw [self]; exact ⟨owner.trans same, rfl⟩⟩] at none
    cases none
  · rw [entries] at freed
    split at freed
    · cases freed
    · exact freed
  · rw [entries, if_neg]
    rintro rfl
    rw [free] at queued
    cases queued

theorem Given.port {g : Tag} {t : State} (h : Given o g s t) (p : Port) : Given o g s { t with port := p } := by
  obtain ⟨⟨member, hold, inbound, channels, ownsQueued, slot, channel, host, free, queued⟩, others, entry, rx⟩ := h
  exact ⟨⟨member, hold, inbound, channels, ownsQueued, slot, channel, host, free, queued⟩, others, entry, rx⟩

theorem segmentEntry_owner (d : Descriptor) (c : ChannelNo) (r : SegRecord) : (d.segmentEntry c r).owner = .channel c := by
  unfold Descriptor.segmentEntry
  cases d.direction <;> rfl

theorem given_issueSegment {c : ChannelNo} {g : Tag} {r : SegRecord} (free : (s.entry g).state = .free)
    (running : (s.channel c).state = .running) : Given (.channel c) g s (s.issueSegment c g r) := by
  have queued : Given (.channel c) g s ((s.modifyChannel c fun ch =>
      { ch with waiting := false, payload := none, records := issueFirst g ch.records }).queueEntry g
        ((s.channel c).desc.segmentEntry c r)) := by
    refine given_queueEntry rfl rfl rfl rfl rfl (fun d other => ?_) (fun _ => rfl) (fun d same => ?_) nofun free
      (segmentEntry_owner _ c r)
    · exact channel_setChannel_other s (show d ≠ c from fun e => other (e ▸ rfl)) _
    · cases same
      rw [channel_modifyChannel_self]
      exact ⟨rfl, by rw [running]; decide⟩
  unfold State.issueSegment
  dsimp only
  cases (s.channel c).desc.direction with
  | pull => exact queued
  | push => exact queued.port _

theorem given_issueNotice {c : ChannelNo} {g : Tag} (n : NoticeRecord) (free : (s.entry g).state = .free)
    (notifying : (s.channel c).state = .notifying) : Given (.channel c) g s (s.issueNotice c g n) := by
  refine given_queueEntry rfl rfl rfl rfl rfl (fun d other => ?_) (fun _ => rfl) (fun d same => ?_) nofun free rfl
  · exact channel_setChannel_other s (show d ≠ c from fun e => other (e ▸ rfl)) _
  · cases same
    rw [channel_modifyChannel_self]
    exact ⟨rfl, by rw [notifying]; decide⟩

/-- A RUNNING channel that asks for a tag has a PENDING record, once it has cut one (R11, R37). -/
def HasPending (s : State) : Prop :=
  ∀ c, s.wantsTag c = true → (s.channel c).state = .running → (s.channel c).records.any SegRecord.isPending = true

/-- A tag offered to this owner is given to it, or ends it. -/
def Answerable (s : State) (o : Owner) : Prop :=
  ∀ c, o = .channel c → (s.channel c).state = .running → (s.channel c).records.any SegRecord.isPending = true

theorem HasPending.answerable (pending : HasPending s) (waits : s.waits o = true) : Answerable s o := by
  rintro c rfl
  exact pending c (Bool.and_eq_true_iff.mp waits).2

theorem find_of_any {l : List SegRecord} (any : l.any SegRecord.isPending = true) : ∃ r, l.find? SegRecord.isPending = some r := by
  rw [← Option.isSome_iff_exists, List.find?_isSome]
  exact List.any_eq_true.mp any

theorem offerChannel_of_notifying {c : ChannelNo} {n : NoticeRecord} (notifying : (s.channel c).state = .notifying)
    (notice : (s.channel c).notice = some n) (g : Tag) :
    s.offerChannel c g = if s.peerUsable (s.channel c).desc.peer then s.issueNotice c g n else s.dropOwner (.channel c) := by
  unfold State.offerChannel
  dsimp only
  rw [notifying, notice]

/-- An offer to an owner that waits gives it the tag, or ends it, by its peer (R38, R39). -/
theorem offered_cases {g : Tag} (pending : Answerable s o) (waits : s.waits o = true) (free : (s.entry g).state = .free) :
    (s.peerUsable (s.peerOf o) = true → Given o g s (offered s o g)) ∧
    (s.peerUsable (s.peerOf o) = false → offered s o g = s.dropOwner o) := by
  cases o with
  | channel c =>
    have wants := (Bool.and_eq_true_iff.mp waits).2
    rcases state_of_wantsTag wants with running | notifying
    · obtain ⟨r, found⟩ := find_of_any (pending c rfl running)
      refine ⟨fun usable => ?_, fun unusable => ?_⟩
      · rw [offered, offerChannel_of_running running found, if_pos (by exact usable)]
        exact given_issueSegment free running
      · rw [offered, offerChannel_of_running running found, if_neg (by exact Bool.eq_false_iff.mp unusable)]
    · obtain ⟨n, notice, -⟩ := wantsTag_of_notifying notifying wants
      refine ⟨fun usable => ?_, fun unusable => ?_⟩
      · rw [offered, offerChannel_of_notifying notifying notice, if_pos (by exact usable)]
        exact given_issueNotice n free notifying
      · rw [offered, offerChannel_of_notifying notifying notice, if_neg (by exact Bool.eq_false_iff.mp unusable)]
  | host =>
    refine ⟨fun usable => ?_, fun unusable => ?_⟩
    · rw [offered, State.offerSlot, if_pos (by exact usable)]
      exact given_queueEntry rfl rfl rfl rfl rfl (fun _ _ => rfl) (fun other => absurd rfl other) nofun
        (fun _ => rfl) free rfl
    · rw [offered, State.offerSlot, if_neg (by exact Bool.eq_false_iff.mp unusable)]

theorem served_offered {g : Tag} (pending : Answerable s o) (waits : s.waits o = true) (free : (s.entry g).state = .free) :
    Served o s (offered s o g) := by
  obtain ⟨given, dropped⟩ := offered_cases pending waits free
  cases usable : s.peerUsable (s.peerOf o) with
  | true => exact (given usable).toServed
  | false => rw [dropped usable]; exact served_dropOwner waits

end

end Sys2Proof.Proofs
end


section
/-!
Settling reaches the end of its work: the starts and the asking of the channels, the rounds that dispatch the Receive Buffer, and
the allocation, which meets no owner whose peer is not usable (R7, R13, R37 to R39, R76, R112, R162).
-/

set_option Elab.async false

namespace Sys2Proof.Proofs

open Sys2Proof Sys2Proof.Machine Sys2Proof.Safety Sys2Proof.Laws

/-! ## The starts -/

theorem allChannels_nodup : allChannels.Nodup := by decide

/-- A walk over channels, each written by what it was before the walk. -/
theorem foldl_channels {f : State → ChannelNo → State} {F : ChannelNo → State → Channel}
    (writes : ∀ s c, f s c = s.setChannel c (F c s))
    (reads : ∀ s c d x, d ≠ c → F d (s.setChannel c x) = F d s) {l : List ChannelNo} (once : l.Nodup) (s : State) :
    l.foldl f s = { s with channels := (l.foldl f s).channels } ∧
      ∀ d, (l.foldl f s).channel d = if d ∈ l then F d s else s.channel d := by
  induction l generalizing s with
  | nil => exact ⟨rfl, fun d => rfl⟩
  | cons c l ih =>
    obtain ⟨fresh, once⟩ := List.nodup_cons.mp once
    obtain ⟨shape, channels⟩ := ih once (f s c)
    rw [List.foldl_cons]
    generalize l.foldl f (f s c) = t at shape channels
    rw [writes] at shape channels
    refine ⟨shape, fun d => ?_⟩
    rw [channels]
    by_cases same : d = c
    · subst same
      rw [if_neg fresh, if_pos List.mem_cons_self, channel_setChannel_self]
    · rw [reads s c d _ same, channel_setChannel_other s same]
      simp only [List.mem_cons, same, false_or]

theorem startIfDue_eq (s : State) (c : ChannelNo) :
    s.startIfDue c = s.setChannel c (if s.startDue c then (s.channel c).started else s.channel c) := by
  unfold State.startIfDue
  split
  · rfl
  · exact (setChannel_same s c).symm

theorem startChannels_spec (s : State) : s.startChannels = { s with channels := s.startChannels.channels } ∧
    ∀ d, s.startChannels.channel d = if s.startDue d then (s.channel d).started else s.channel d := by
  obtain ⟨shape, channels⟩ := foldl_channels (F := fun c s => if s.startDue c then (s.channel c).started else s.channel c)
    startIfDue_eq (fun s c d x other => by
      rw [channel_setChannel_other s other, startDue_congr (s := s) (channel_setChannel_other s other x) rfl rfl])
    allChannels_nodup s
  exact ⟨shape, fun d => (channels d).trans (if_pos (mem_allChannels d))⟩

theorem startDue_startChannels (s : State) (c : ChannelNo) : s.startChannels.startDue c = false := by
  obtain ⟨shape, channels⟩ := startChannels_spec s
  generalize s.startChannels = t at shape channels
  have channel := channels c
  cases due : s.startDue c with
  | true =>
    rw [due, if_pos rfl] at channel
    rw [State.startDue, channel]
    rfl
  | false =>
    rw [due, if_neg (by decide)] at channel
    rw [startDue_congr channel (by rw [shape]) (by rw [shape]), due]

/-! ## The channels' asking (R11, R13, R15) -/

/-- What asking makes of a channel. -/
def askedChannel (wants : Bool) (ch : Channel) : Channel :=
  if wants then { (if ch.state = .running && ch.canCut then ch.cut else ch) with waiting := true } else { ch with waiting := false }

theorem askChannel_eq (s : State) (c : ChannelNo) : s.askChannel c = s.setChannel c (askedChannel (s.wantsTag c) (s.channel c)) := by
  unfold State.askChannel askedChannel
  split <;> rfl

theorem askChannels_spec (s : State) : s.askChannels = { s with channels := s.askChannels.channels } ∧
    ∀ d, s.askChannels.channel d = askedChannel (s.wantsTag d) (s.channel d) := by
  obtain ⟨shape, channels⟩ := foldl_channels (F := fun c s => askedChannel (s.wantsTag c) (s.channel c))
    askChannel_eq (fun s c d x other => by
      rw [channel_setChannel_other s other, wantsTag_congr (s := s) (channel_setChannel_other s other x) rfl rfl rfl])
    allChannels_nodup s
  exact ⟨shape, fun d => (channels d).trans (if_pos (mem_allChannels d))⟩

/-- What asking keeps of a channel: a cut adds a PENDING record and no other. -/
theorem askedChannel_cases (wants : Bool) (ch : Channel) :
    askedChannel wants ch = { ch with waiting := wants } ∨
      wants = true ∧ ch.state = .running ∧ askedChannel wants ch = { ch.cut with waiting := true } := by
  unfold askedChannel
  cases wants with
  | false => exact .inl rfl
  | true =>
    by_cases cuts : (ch.state = .running && ch.canCut) = true
    · refine .inr ⟨rfl, by simpa using (Bool.and_eq_true_iff.mp cuts).1, ?_⟩
      rw [if_pos rfl, if_pos cuts]
    · rw [if_pos rfl, if_neg cuts]
      exact .inl rfl

theorem askedChannel_waiting (wants : Bool) (ch : Channel) : (askedChannel wants ch).waiting = wants := by
  unfold askedChannel
  cases wants <;> rfl

theorem askedChannel_state (wants : Bool) (ch : Channel) : (askedChannel wants ch).state = ch.state := by
  rcases askedChannel_cases wants ch with h | ⟨-, -, h⟩
  · rw [h]
  · rw [h]
    rfl

theorem askedChannel_others (wants : Bool) (ch : Channel) : (askedChannel wants ch).latch = ch.latch ∧
    (askedChannel wants ch).pause = ch.pause ∧ (askedChannel wants ch).desc = ch.desc ∧
    (askedChannel wants ch).notice = ch.notice := by
  rcases askedChannel_cases wants ch with h | ⟨-, -, h⟩ <;> rw [h] <;> exact ⟨rfl, rfl, rfl, rfl⟩

theorem askedChannel_outstanding (wants : Bool) (ch : Channel) :
    (askedChannel wants ch).outstandingCount = ch.outstandingCount := by
  rcases askedChannel_cases wants ch with h | ⟨-, -, h⟩
  · rw [h]
    rfl
  · rw [h]
    simp [Channel.outstandingCount, Channel.cut, SegRecord.isOutstanding]

/-- A RUNNING channel that asks has a PENDING record after it. -/
theorem askedChannel_pending {s : State} {c : ChannelNo} (wants : s.wantsTag c = true) (running : (s.channel c).state = .running) :
    (askedChannel (s.wantsTag c) (s.channel c)).records.any SegRecord.isPending = true := by
  rw [wantsTag_of_running running, Bool.and_eq_true_iff] at wants
  rw [wantsTag_of_running running, wants.1, wants.2]
  unfold askedChannel
  rw [Bool.and_true, if_pos rfl, running]
  cases cut : (s.channel c).canCut with
  | true => simp [Channel.cut, SegRecord.isPending]
  | false =>
    rw [cut, Bool.or_false] at wants
    simpa using wants.2

theorem mayIssue_of_same {s t : State} {c : ChannelNo} (state : (t.channel c).state = (s.channel c).state)
    (count : (t.channel c).outstandingCount = (s.channel c).outstandingCount) (desc : (t.channel c).desc = (s.channel c).desc)
    (member : t.member = s.member) (hold : t.holdDepth = s.holdDepth) (tracker : t.tracker = s.tracker) :
    t.mayIssue c = s.mayIssue c := by
  rw [State.mayIssue, State.mayIssue, state, count, desc, member, hold, ownsQueued_congr tracker]

/-- What R7, R13 and R76 ask of a state that settling leaves, with what makes every offer end an owner's wait. -/
structure Ready (s : State) : Prop where
  starts : ∀ c, s.startDue c = false
  asks : ∀ c, (s.channel c).waiting = s.wantsTag c
  pending : HasPending s
  engine : s.inbound.engine = .idle → s.inbound.queue = []

/-- The channels that want a tag are those that ask, and they want it still (R37). -/
theorem wantsTag_askChannels (s : State) (c : ChannelNo) : s.askChannels.wantsTag c = s.wantsTag c := by
  obtain ⟨shape, channels⟩ := askChannels_spec s
  generalize s.askChannels = t at shape channels
  have channel := channels c
  obtain ⟨latch, pause, desc, notice⟩ := askedChannel_others (s.wantsTag c) (s.channel c)
  have state := askedChannel_state (s.wantsTag c) (s.channel c)
  have count := askedChannel_outstanding (s.wantsTag c) (s.channel c)
  rw [← channel] at latch pause desc notice state count
  have member : t.member = s.member := by rw [shape]
  have hold : t.holdDepth = s.holdDepth := by rw [shape]
  have tracker : t.tracker = s.tracker := by rw [shape]
  have may := mayIssue_of_same state count desc member hold tracker
  cases running : (s.channel c).state with
  | running =>
    rw [wantsTag_of_running (state.trans running), may]
    rcases askedChannel_cases (s.wantsTag c) (s.channel c) with h | ⟨wants, -, h⟩
    · rw [← channel] at h
      rw [wantsTag_of_running running, h]
      rfl
    · have records := askedChannel_pending wants running
      rw [← channel] at records
      rw [records, Bool.true_or, Bool.and_true, wants]
      rw [wantsTag_of_running running] at wants
      exact (Bool.and_eq_true_iff.mp wants).1
  | off | armed | paused | notifying =>
    unfold State.wantsTag
    dsimp only
    rw [state, running, pause, member, hold, notice, ownsQueued_congr tracker]

theorem ready_askChannels {s : State} (starts : ∀ c, s.startDue c = false)
    (engine : s.inbound.engine = .idle → s.inbound.queue = []) : Ready s.askChannels := by
  have wants := wantsTag_askChannels s
  obtain ⟨shape, channels⟩ := askChannels_spec s
  generalize s.askChannels = t at wants shape channels
  refine ⟨fun c => ?_, fun c => ?_, fun c asks running => ?_, by rw [shape]; exact engine⟩
  · obtain ⟨latch, pause, -, -⟩ := askedChannel_others (s.wantsTag c) (s.channel c)
    rw [← starts c, State.startDue, State.startDue, channels, askedChannel_state, latch, pause, shape]
  · rw [channels, askedChannel_waiting, wants]
  · rw [wants] at asks
    rw [channels, askedChannel_state] at running
    rw [channels]
    exact askedChannel_pending asks running

theorem Served.ready {o : Owner} {s t : State} (h : Served o s t) (ready : Ready s) : Ready t := by
  obtain ⟨starts, asks, pending, engine⟩ := ready
  refine ⟨fun c => ?_, fun c => ?_, fun c wants running => ?_, by rw [h.inbound]; exact engine⟩
  · by_cases own : o = .channel c
    · have armed := (h.channel c own).2.2
      rw [State.startDue, decide_eq_false armed]
      rfl
    · rw [startDue_congr (h.channels c own) h.member h.hold, starts]
  · by_cases own : o = .channel c
    · obtain ⟨waiting, wants, -⟩ := h.channel c own
      rw [waiting, wants]
    · rw [h.channels c own, h.wantsTag own, asks]
  · by_cases own : o = .channel c
    · rw [(h.channel c own).2.1] at wants
      cases wants
    · rw [h.wantsTag own] at wants
      rw [h.channels c own] at running ⊢
      exact pending c wants running

theorem engine_engineTake (s : State) : s.engineTake.inbound.engine = .idle → s.engineTake.inbound.queue = [] := by
  rw [engineTake_inbound]
  unfold taken
  split
  · next r rest _ _ =>
    cases r.write <;> nofun
  · next h =>
    intro idle
    cases queue : s.inbound.queue with
    | nil => rfl
    | cons r rest => exact absurd queue (h r rest idle)

theorem engineTake_channel (s : State) (c : ChannelNo) : s.engineTake.channel c = s.channel c := by
  unfold State.engineTake
  split
  · split <;> rfl
  · rfl

theorem startDue_settleOnce (s : State) (c : ChannelNo) : s.settleOnce.startDue c = false := by
  rw [← startDue_startChannels s c]
  exact startDue_congr (engineTake_channel _ c) (engineTake_others _).1 (engineTake_working _).holdDepth

theorem settleOnce_others (s : State) : s.settleOnce.rx = s.rx ∧ s.settleOnce.tracker = s.tracker ∧
    s.settleOnce.member = s.member ∧ s.settleOnce.notices = s.notices ∧ s.settleOnce.holdDepth = s.holdDepth := by
  obtain ⟨shape, -⟩ := startChannels_spec s
  obtain ⟨member, notices, rx, tracker⟩ := engineTake_others s.startChannels
  have hold := (engineTake_working s.startChannels).holdDepth
  unfold State.settleOnce
  exact ⟨by rw [rx, shape], by rw [tracker, shape], by rw [member, shape], by rw [notices, shape], by rw [hold, shape]⟩

theorem engine_settleOnce (s : State) : s.settleOnce.inbound.engine = .idle → s.settleOnce.inbound.queue = [] := by
  unfold State.settleOnce
  exact engine_engineTake s.startChannels

/-- Before the owners of unusable peers end, the asking has left a ready state. -/
theorem ready_asked (s : State) : Ready s.settleOnce.askChannels :=
  ready_askChannels (s := s.settleOnce) (startDue_settleOnce s) (engine_settleOnce s)

/-! ## Owners ended one after the other -/

/-- Several owners served in turn, each of which waited. -/
inductive ServedAll : List Owner → State → State → Prop
  | nil (s : State) : ServedAll [] s s
  | cons {o : Owner} {l : List Owner} {s t u : State} (waits : s.waits o = true) (first : Served o s t) (rest : ServedAll l t u) : ServedAll (o :: l) s u

theorem ServedAll.keeps {P : State → Prop} (step : ∀ o s t, s.waits o = true → Served o s t → P s → P t) {l : List Owner} {s t : State}
    (h : ServedAll l s t) (hs : P s) : P t := by
  induction h with
  | nil s => exact hs
  | cons waits first rest ih => exact ih (step _ _ _ waits first hs)

theorem ServedAll.waits {l : List Owner} {s t : State} (h : ServedAll l s t) {p : Owner} (waits : t.waits p = true) :
    p ∉ l ∧ s.waits p = true := by
  induction h with
  | nil s => exact ⟨List.not_mem_nil, waits⟩
  | cons _ first rest ih =>
    obtain ⟨apart, before⟩ := ih waits
    obtain ⟨other, there⟩ := first.waits before
    exact ⟨fun h => (List.mem_cons.mp h).elim other apart, there⟩

theorem servedAll_dropOwner {l : List Owner} (once : l.Nodup) {s : State} (waits : ∀ o ∈ l, s.waits o = true) :
    ServedAll l s (l.foldl State.dropOwner s) := by
  induction l generalizing s with
  | nil => exact .nil s
  | cons o l ih =>
    obtain ⟨fresh, once⟩ := List.nodup_cons.mp once
    have first := served_dropOwner (waits o List.mem_cons_self)
    refine .cons (waits o List.mem_cons_self) first (ih once fun p there => ?_)
    rw [first.waits_other fun e => fresh (e ▸ there)]
    exact waits p (List.mem_cons_of_mem o there)

theorem servedAll_dropUnusable (s : State) : ServedAll (s.unusableOwners s.freeCount ownerOrder) s s.dropUnusable :=
  servedAll_dropOwner (ownerOrder_nodup.sublist (unusableOwners_sublist s _ _)) fun _ there =>
    (waits_of_mem_unusableOwners s there).1

theorem ready_askOwners (s : State) : Ready s.settleOnce.askOwners :=
  (servedAll_dropUnusable _).keeps (fun _ _ _ _ h => h.ready) (ready_asked s)

/-! ## The rounds that dispatch the Receive Buffer (R162, R163) -/

/-- A landing is in progress for a LIVE entry. -/
def landing (s : State) : Bool := allTags.any fun g => (s.entry g).landingMark && (s.entry g).state = .live

/-- Twice the frames that wait, one less while the head of them lands: what the rounds have left to do. -/
def workLeft (s : State) : Nat := 2 * s.rx.buffer.length - if landing s then 1 else 0

theorem landing_iff (s : State) : landing s = true ↔ ∃ g, (s.entry g).landingMark = true ∧ (s.entry g).state = .live := by
  simp only [landing, List.any_eq_true, Bool.and_eq_true, decide_eq_true_eq, mem_allTags, true_and]

theorem workLeft_congr {s t : State} (rx : t.rx = s.rx) (tracker : t.tracker = s.tracker) : workLeft t = workLeft s := by
  have entries : ∀ g, t.entry g = s.entry g := fun g => entry_congr tracker g
  have same : landing t = landing s := by
    rw [Bool.eq_iff_iff, landing_iff, landing_iff]
    simp only [entries]
  rw [workLeft, workLeft, same, rx]

theorem workLeft_le (s : State) : workLeft s ≤ 2 * s.rx.buffer.length := Nat.sub_le _ _

theorem workLeft_endChannel (s : State) (c : ChannelNo) (k : TermCode) (r : Option RefuseReason) :
    workLeft (s.endChannel c k r) ≤ workLeft s := by
  obtain ⟨-, rx, -, -⟩ := endChannel_blocks s c k r
  have buffer : (s.endChannel c k r).rx.buffer = s.rx.buffer.drop (allTags.countP fun t => isLanding c (s.entry t)) := by
    rw [rx, releaseOwner_eq, releases_buffer c allTags_nodup]
  have entries := endChannel_entry s c k r
  generalize s.endChannel c k r = t at buffer entries
  by_cases some : ∃ g, isLanding c (s.entry g) = true
  · obtain ⟨g, mine⟩ := some
    have positive : 0 < allTags.countP fun t => isLanding c (s.entry t) := List.countP_pos_iff.mpr ⟨g, mem_allTags g, mine⟩
    have shorter : t.rx.buffer.length ≤ s.rx.buffer.length - 1 := by
      rw [buffer, List.length_drop]
      omega
    have before : 2 * s.rx.buffer.length - 1 ≤ workLeft s := by
      unfold workLeft
      split <;> omega
    have after := workLeft_le t
    omega
  · have none : ∀ g, isLanding c (s.entry g) = false := fun g => Bool.eq_false_iff.mpr fun h => some ⟨g, h⟩
    have same : landing t = landing s := by
      rw [Bool.eq_iff_iff, landing_iff, landing_iff]
      refine exists_congr fun g => ?_
      rw [entries]
      split
      · next own =>
        have clear := none g
        rw [isLanding, decide_eq_true own, Bool.true_and] at clear
        refine ⟨fun h => absurd h.2 (releasedEntry_not_held _).2, fun ⟨mark, live⟩ => ?_⟩
        rw [mark, decide_eq_true live] at clear
        cases clear
      · exact Iff.rfl
    rw [workLeft, workLeft, same, buffer, List.length_drop]
    simp only [none]
    rw [List.countP_false]
    exact le_rfl

theorem workLeft_dropOwner (s : State) (o : Owner) : workLeft (s.dropOwner o) ≤ workLeft s := by
  cases o with
  | channel c => exact workLeft_endChannel s c _ _
  | host => exact le_rfl

theorem workLeft_foldl {α : Type} (f : State → α → State) (hf : ∀ s a, workLeft (f s a) ≤ workLeft s) (l : List α) (s : State) :
    workLeft (l.foldl f s) ≤ workLeft s := by
  induction l generalizing s with
  | nil => exact le_rfl
  | cons a l ih => exact (ih (f s a)).trans (hf s a)

theorem workLeft_askOwners (s : State) : workLeft s.askOwners ≤ workLeft s := by
  refine (workLeft_foldl State.dropOwner workLeft_dropOwner _ s.askChannels).trans ?_
  obtain ⟨shape, -⟩ := askChannels_spec s
  exact (workLeft_congr (by rw [shape]) (by rw [shape])).le

theorem workLeft_settleOnce (s : State) : workLeft s.settleOnce = workLeft s :=
  workLeft_congr (settleOnce_others s).1 (settleOnce_others s).2.1

theorem Working.buffer_length {s t : State} (h : Working s t) : t.rx.buffer.length ≤ s.rx.buffer.length := by
  refine h.keeps (P := fun u => u.rx.buffer.length ≤ s.rx.buffer.length) (fun u v w hu => ?_) le_rfl
  cases w with
  | rx r buffer bad =>
    refine le_trans ?_ hu
    rcases buffer with h | h <;> simp [h]
  | _ => exact hu

theorem dispatchDue_iff (s : State) : s.dispatchDue = true ↔ s.rx.buffer ≠ [] ∧ ∀ g, (s.entry g).landingMark = false := by
  simp only [State.dispatchDue, Bool.and_eq_true, Bool.not_eq_true', List.isEmpty_eq_false_iff, State.landingTag,
    Option.isNone_iff_eq_none, List.find?_eq_none, mem_allTags, true_implies, Bool.not_eq_true]

/-- A dispatch takes the head from the buffer, or begins its landing. -/
theorem dispatchHead_shortens {s : State} (some : s.rx.buffer ≠ []) :
    s.dispatchHead.rx.buffer.length < s.rx.buffer.length ∨
      landing s.dispatchHead = true ∧ s.dispatchHead.rx.buffer = s.rx.buffer := by
  have popped : ∀ t, Working s.popBuffer t → t.rx.buffer.length < s.rx.buffer.length := fun t work => by
    refine work.buffer_length.trans_lt ?_
    rw [State.popBuffer, List.length_tail]
    exact Nat.sub_lt (List.length_pos_iff.mpr some) Nat.one_pos
  have readData : ∀ src t last place p, (s.readDataArrives src t last place p).rx.buffer.length < s.rx.buffer.length ∨
      landing (s.readDataArrives src t last place p) = true ∧
        (s.readDataArrives src t last place p).rx.buffer = s.rx.buffer := by
    intro src t last place p
    unfold State.readDataArrives
    dsimp only
    split
    · next answers =>
      split
      · next live =>
        split
        · exact .inl (popped _ ((quarantineEntry_working s.popBuffer (.inl live)).trans (report_working _ _ _ _)))
        · refine .inr ⟨?_, rfl⟩
          rw [landing_iff]
          refine ⟨t, ?_⟩
          have self : ∀ (e : Entry) (b : BurstRequest), ((s.setEntry t e).requestLanding b).entry t = e := fun e b =>
            entry_setEntry_self s t e
          rw [self]
          exact ⟨rfl, live⟩
      · split
        · exact .inl (popped _ (.single (.entry s.popBuffer t _ (.answered (open_of_answers answers)))))
        · exact .inl (popped _ .refl)
    · exact .inl (popped _ (countStale_working _))
  unfold State.dispatchHead
  split
  · next empty => exact absurd empty some
  · split
    · exact .inl (popped _ (requestArrives_working _ _ _ _ _ _ _))
    · exact .inl (popped _ (requestArrives_working _ _ _ _ _ _ _))
    · exact .inl (popped _ (noticeArrives_working _ _ _ _))
    · exact readData _ _ _ _ _
    · exact .inl (popped _ (answerArrives_working _ _ _ _ _))
    · exact .inl (popped _ (answerArrives_working _ _ _ _ _))
    all_goals exact .inl (popped _ .refl)

theorem workLeft_dispatchHead {s : State} (due : s.dispatchDue = true) : workLeft s.dispatchHead < workLeft s := by
  obtain ⟨some, clear⟩ := (dispatchDue_iff s).mp due
  have no : landing s = false := by
    rw [← Bool.not_eq_true, landing_iff]
    rintro ⟨g, mark, -⟩
    rw [clear g] at mark
    cases mark
  have positive := List.length_pos_iff.mpr some
  have before : workLeft s = 2 * s.rx.buffer.length := by
    rw [workLeft, no]
    rfl
  rcases dispatchHead_shortens some with shorter | ⟨lands, same⟩
  · have after := workLeft_le s.dispatchHead
    omega
  · rw [before, workLeft, lands, if_pos rfl, same]
    omega

/-- With rounds enough, settling ends in a round that leaves no head to dispatch. -/
theorem settleN_reaches {n : Nat} {s : State} (enough : workLeft s ≤ n) : ∃ v, Working s v ∧
    State.settleN n s = v.settleOnce.askOwners.settleTags ∧ v.settleOnce.askOwners.dispatchDue = false := by
  induction n generalizing s with
  | zero =>
    refine ⟨s, .refl, rfl, ?_⟩
    have after : workLeft s.settleOnce.askOwners ≤ 0 := by
      refine (workLeft_askOwners _).trans ?_
      rw [workLeft_settleOnce]
      exact enough
    rw [← Bool.not_eq_true]
    intro due
    exact absurd (workLeft_dispatchHead due) (by omega)
  | succ n ih =>
    have once := settleOnce_working s
    have asked := once.trans (askOwners_working s.settleOnce)
    have first : workLeft s.settleOnce ≤ n + 1 := by rw [workLeft_settleOnce]; exact enough
    have second := (workLeft_askOwners s.settleOnce).trans first
    have next : ∀ u, Working s u → workLeft u ≤ n + 1 → u.dispatchDue = true → ∃ v, Working s v ∧
        State.settleN n u.dispatchHead = v.settleOnce.askOwners.settleTags ∧ v.settleOnce.askOwners.dispatchDue = false :=
      fun u work few due => by
        have less := workLeft_dispatchHead due
        obtain ⟨v, more, eq, calm⟩ := ih (s := u.dispatchHead) (by omega)
        exact ⟨v, (work.trans (dispatchHead_working u)).trans more, eq, calm⟩
    rw [State.settleN]
    dsimp only
    split
    · next due => exact next _ once first due
    · split
      · next due => exact next _ asked second due
      · next calm => exact ⟨s, .refl, rfl, Bool.eq_false_iff.mpr calm⟩

end Sys2Proof.Proofs
end


section
/-!
What the allocation at the end of a step leaves, and with it that settling does all the work that is due.
-/

set_option Elab.async false

namespace Sys2Proof.Proofs

open Sys2Proof Sys2Proof.Machine Sys2Proof.Safety Sys2Proof.Laws

/-! ## The owners of unusable peers (R39) -/

theorem ServedAll.free {l : List Owner} {s t : State} (h : ServedAll l s t) {g : Tag} (free : (t.entry g).state = .free) :
    (s.entry g).state = .free := by
  induction h with
  | nil s => exact free
  | cons _ first rest ih => exact first.free g (ih free)

theorem ServedAll.kept {l : List Owner} {s t : State} (h : ServedAll l s t) {p : Owner} (apart : p ∉ l) :
    t.waits p = s.waits p ∧ t.peerUsable (t.peerOf p) = s.peerUsable (s.peerOf p) := by
  induction h with
  | nil s => exact ⟨rfl, rfl⟩
  | cons _ first rest ih =>
    obtain ⟨other, apart⟩ := not_or.mp (List.mem_cons.not.mp apart)
    obtain ⟨waits, usable⟩ := ih apart
    exact ⟨waits.trans (first.waits_other other), usable.trans (by rw [first.peerOf other, peerUsable_congr first.member])⟩

theorem freeCount_congr {s t : State} (same : ∀ g, (t.entry g).state = .free ↔ (s.entry g).state = .free) :
    t.freeCount = s.freeCount := by
  unfold State.freeCount
  rw [List.filter_congr fun g _ => decide_eq_decide.mpr (same g)]

theorem unusableOwners_congr {s t : State} {l : List Owner}
    (same : ∀ o ∈ l, t.waits o = s.waits o ∧ t.peerUsable (t.peerOf o) = s.peerUsable (s.peerOf o)) (n : Nat) :
    t.unusableOwners n l = s.unusableOwners n l := by
  induction l generalizing n with
  | nil => cases n <;> rfl
  | cons o l ih =>
    cases n with
    | zero => rfl
    | succ n =>
      obtain ⟨waits, usable⟩ := same o List.mem_cons_self
      have rest := ih fun p there => same p (List.mem_cons_of_mem o there)
      rw [State.unusableOwners, State.unusableOwners, waits, usable, rest, rest]

/-- With those ended that FREE tags reach, the tags reach no further owner of an unusable peer. -/
theorem unusableOwners_of_dropped {s t : State} {dropped : List Owner}
    (unusable : ∀ o ∈ dropped, s.peerUsable (s.peerOf o) = false) (gone : ∀ o ∈ dropped, t.waits o = false)
    (kept : ∀ o, o ∉ dropped → t.waits o = s.waits o ∧ t.peerUsable (t.peerOf o) = s.peerUsable (s.peerOf o))
    {n : Nat} {l : List Owner} (reached : ∀ o ∈ s.unusableOwners n l, o ∈ dropped) : t.unusableOwners n l = [] := by
  induction l generalizing n with
  | nil => cases n <;> rfl
  | cons o l ih =>
    cases n with
    | zero => rfl
    | succ n =>
      rw [State.unusableOwners] at reached ⊢
      cases waits : s.waits o with
      | false =>
        have idle : t.waits o = false := by
          by_cases there : o ∈ dropped
          · exact gone o there
          · rw [(kept o there).1, waits]
        rw [waits, if_neg (by decide)] at reached
        rw [idle, if_neg (by decide)]
        exact ih reached
      | true =>
        rw [waits, if_pos rfl] at reached
        cases usable : s.peerUsable (s.peerOf o) with
        | true =>
          have apart : o ∉ dropped := fun there => by
            rw [unusable o there] at usable
            cases usable
          obtain ⟨waits', usable'⟩ := kept o apart
          rw [usable, if_pos rfl] at reached
          rw [waits', waits, if_pos rfl, usable', usable, if_pos rfl]
          exact ih reached
        | false =>
          rw [usable, if_neg (by decide)] at reached
          rw [gone o (reached o List.mem_cons_self), if_neg (by decide)]
          exact ih fun p there => reached p (List.mem_cons_of_mem o there)

theorem unusableOwners_dropUnusable (s : State) : s.dropUnusable.unusableOwners s.dropUnusable.freeCount ownerOrder = [] := by
  have served := servedAll_dropUnusable s
  have work := dropUnusable_working s
  have waited := fun o (there : o ∈ s.unusableOwners s.freeCount ownerOrder) => waits_of_mem_unusableOwners s there
  generalize hl : s.unusableOwners s.freeCount ownerOrder = l at served waited
  generalize s.dropUnusable = t at served work ⊢
  have count : t.freeCount = s.freeCount := freeCount_congr fun g =>
    ⟨served.free, fun free => by rw [work.settled_entry (.inl free)]; exact free⟩
  rw [count]
  refine unusableOwners_of_dropped (s := s) (dropped := l) (fun o there => (waited o there).2) (fun o there => ?_)
    (fun o apart => served.kept apart) fun o there => hl ▸ there
  rw [← Bool.not_eq_true]
  exact fun waits => (served.waits waits).1 there

/-! ## The allocation (R36 to R38) -/

theorem Given.freeCount {o : Owner} {g : Tag} {s t : State} (h : Given o g s t) (free : (s.entry g).state = .free) :
    s.freeCount = t.freeCount + 1 := by
  have left : (allTags.filter fun x => (t.entry x).state = .free) = (allTags.filter fun x => (s.entry x).state = .free).erase g := by
    rw [(allTags_nodup.filter _).erase_eq_filter, List.filter_filter]
    refine List.filter_congr fun x _ => ?_
    by_cases same : x = g
    · subst same
      rw [h.entry.1]
      simp
    · rw [h.others x same]
      simp [same]
  have there : g ∈ allTags.filter fun x => (s.entry x).state = .free := by simp [mem_allTags, free]
  rw [State.freeCount, State.freeCount, left, List.length_erase_of_mem there]
  exact (Nat.sub_add_cancel (List.length_pos_of_mem there)).symm

theorem freeCount_of_none {s : State} (none : s.lowestFree = none) : s.freeCount = 0 := by
  rw [lowestFree_iff] at none
  simp [State.freeCount, none]

/-- No head waits for dispatch: the buffer is empty, or its head lands (R163). -/
def Calm (s : State) : Prop := s.rx.buffer = [] ∨ ∃ g, (s.entry g).landingMark = true

theorem calm_iff (s : State) : Calm s ↔ s.dispatchDue = false := by
  rw [← Bool.not_eq_true, dispatchDue_iff, Calm]
  by_cases empty : s.rx.buffer = []
  · simp [empty]
  · simp [empty]

theorem Given.calm {o : Owner} {g : Tag} {s t : State} (h : Given o g s t) (timers : TrackerTimers s)
    (free : (s.entry g).state = .free) (calm : Calm s) : Calm t := by
  refine calm.imp (fun empty => by rw [h.rx, empty]) fun ⟨x, mark⟩ => ⟨x, ?_⟩
  rw [h.others x]
  · exact mark
  · rintro rfl
    have := timers x
    simp [EntryTimers, free, mark] at this

/-- What an allocation has left once the owners of `l` have been offered tags. -/
structure Allocated (l : List Owner) (s t : State) : Prop where
  ready : Ready t
  calm : Calm t
  waits : ∀ p, t.waits p = true → s.waits p = true
  free : ∀ g, (t.entry g).state = .free → (s.entry g).state = .free
  served : ∀ o ∈ l, t.waits o = true → ∀ g, (t.entry g).state ≠ .free

theorem allocated_foldl {l : List Owner} (once : l.Nodup) {s : State} (ready : Ready s) (timers : TrackerTimers s) (calm : Calm s)
    (reach : s.unusableOwners s.freeCount l = []) : Allocated l s (l.foldl State.grantTag s) := by
  induction l generalizing s with
  | nil => exact ⟨ready, calm, fun _ => id, fun _ => id, fun o there => by cases there⟩
  | cons o l ih =>
    obtain ⟨fresh, once⟩ := List.nodup_cons.mp once
    rw [List.foldl_cons]
    cases waits : s.waits o with
    | false =>
      have rest : s.unusableOwners s.freeCount l = [] := by
        cases count : s.freeCount with
        | zero => cases l <;> rfl
        | succ n =>
          rw [count, State.unusableOwners, waits, if_neg (by decide)] at reach
          exact reach
      rw [grantTag_of_not_waits waits]
      obtain ⟨ready', calm', kept, free, served⟩ := ih once ready timers calm rest
      refine ⟨ready', calm', kept, free, fun p there still => ?_⟩
      rcases List.mem_cons.mp there with rfl | there
      · rw [kept p still] at waits
        cases waits
      · exact served p there still
    | true =>
      cases lowest : s.lowestFree with
      | none =>
        have same : s.grantTag o = s := by rw [State.grantTag, lowest]
        rw [same]
        obtain ⟨ready', calm', kept, free, served⟩ := ih once ready timers calm (by rw [freeCount_of_none lowest]; cases l <;> rfl)
        exact ⟨ready', calm', kept, free, fun p there still g freed => (lowestFree_iff s).mp lowest g (free g freed)⟩
      | some g =>
        have freeG := free_of_lowestFree s lowest
        obtain ⟨n, count⟩ : ∃ n, s.freeCount = n + 1 := Nat.exists_eq_succ_of_ne_zero fun zero => by
          have : g ∈ allTags.filter fun x => (s.entry x).state = .free := by simp [mem_allTags, freeG]
          rw [List.length_eq_zero_iff.mp zero] at this
          cases this
        rw [count, State.unusableOwners, waits, if_pos rfl] at reach
        have usable : s.peerUsable (s.peerOf o) = true := by
          rw [← Bool.not_eq_false]
          intro unusable
          rw [unusable, if_neg (by decide)] at reach
          cases reach
        rw [usable, if_pos rfl] at reach
        have given := (offered_cases (ready.pending.answerable waits) waits freeG).1 usable
        have inside := grantTag_inside s o
        rw [grantTag_of_waits lowest waits] at inside ⊢
        generalize offered s o g = t at given inside
        have served := given.toServed
        have left : t.freeCount = n := by
          have := given.freeCount freeG
          omega
        have rest : t.unusableOwners t.freeCount l = [] := by
          rw [left, unusableOwners_congr (s := s) (fun p there => ?_) n, reach]
          have other : p ≠ o := fun e => fresh (e ▸ there)
          exact ⟨served.waits_other other, by rw [served.peerOf other, peerUsable_congr served.member]⟩
        obtain ⟨ready', calm', kept, free, later⟩ :=
          ih once (served.ready ready) (inside.changes.keeps_trackerTimers timers) (given.calm timers freeG calm) rest
        refine ⟨ready', calm', fun p still => (served.waits (kept p still)).2, fun x freed => served.free x (free x freed),
          fun p there still => ?_⟩
        rcases List.mem_cons.mp there with rfl | there
        · exact absurd rfl (served.waits (kept p still)).1
        · exact later p there still

/-! ## All that is due is done -/

theorem drainDone_checkDrain (s : State) : s.checkDrain.drainDone = false := by
  unfold State.checkDrain
  split
  · simp [State.drainDone, State.endDrain, State.appendControl, State.setControl]
  · next h => exact Bool.eq_false_iff.mpr h

/-- The end of a drain writes the control list and the drain timer only. -/
theorem checkDrain_eq (s : State) : s.checkDrain = { s with member := { s.member with
    drain := s.checkDrain.member.drain, control := s.checkDrain.member.control } } := by
  unfold State.checkDrain
  split <;> rfl

theorem workDone_checkDrain {s t : State} (h : Allocated ownerOrder s t) : WorkDone t.checkDrain := by
  obtain ⟨ready, calm, -, -, served⟩ := h
  obtain ⟨starts, asks, -, engine⟩ := ready
  have done := drainDone_checkDrain t
  have shape := checkDrain_eq t
  generalize t.checkDrain = u at done shape
  have wants : ∀ c, u.wantsTag c = t.wantsTag c := fun c => by rw [shape]; rfl
  have waits : ∀ o, u.waits o = t.waits o := fun o => by rw [shape]; cases o <;> rfl
  have channels : ∀ c, u.channel c = t.channel c := fun c => by rw [shape]; rfl
  have entries : ∀ g, u.entry g = t.entry g := fun g => by rw [shape]; rfl
  refine ⟨fun c ⟨armed, latch, pause, online, hold⟩ => ?_, fun c => ?_, fun o waiting g => ?_, ?_, ?_, fun leaving drain quiet => ?_⟩
  · have := starts c
    rw [channels] at armed latch pause
    rw [shape] at online hold
    simp [State.startDue, armed, latch, pause, show t.member.state = .online from online, show t.holdDepth = 0 from hold] at this
  · rw [channels, wants, asks]
  · rw [entries]
    exact served o (mem_ownerOrder o) ((waits o).symm.trans waiting) g
  · rw [shape]
    exact engine
  · rw [shape]
    exact calm
  · rw [State.drainDone, decide_eq_true leaving, quiet.1, quiet.2, Option.isSome_iff_ne_none.mpr drain] at done
    cases done

theorem workDone_orderFetches {s : State} (h : WorkDone s) (old : List (ChannelNo × BurstRequest)) :
    WorkDone (s.orderFetches old) := by
  obtain ⟨starts, asks, served, engine, calm, drain⟩ := h
  exact ⟨starts, asks, fun o => by cases o with
    | channel c => exact served (.channel c)
    | host => exact served .host, engine, calm, drain⟩

/-- The buffer holds at most four frames, for which the rounds of `settleFrom` are enough. -/
theorem workDone_settleFrom {s : State} (timers : TrackerTimers s) (room : s.rx.buffer.length ≤ 4)
    (old : List (ChannelNo × BurstRequest)) : WorkDone (s.settleFrom old) := by
  have enough : workLeft s ≤ 2 * Config.receiveBufferSize := (workLeft_le s).trans (Nat.mul_le_mul_left 2 room)
  obtain ⟨v, work, eq, calm⟩ := settleN_reaches enough
  have worked : Working s v.settleOnce.askOwners := (work.trans (settleOnce_working v)).trans (askOwners_working _)
  have reached := worked.changes.keeps_trackerTimers timers
  have ready := ready_askOwners v
  have none := unusableOwners_dropUnusable v.settleOnce.askChannels
  rw [State.settleFrom, eq, State.settleTags]
  refine workDone_orderFetches (workDone_checkDrain (s := v.settleOnce.askOwners) ?_) old
  exact allocated_foldl ownerOrder_nodup ready reached ((calm_iff _).mpr calm) none

/-- Settles O5. -/
theorem settleIsIdleWhenNothingIsDue : Obligations.SettleIsIdleWhenNothingIsDue := fun _ =>
  ⟨settle_of_nothingDue, fun timers room => ⟨workDone_settleFrom timers room _, workDone_settleFrom timers room⟩⟩

end Sys2Proof.Proofs
end


section
/-!
The offers of TAG_ALLOCATION, and the tags that one step gives, in the order of the owners and from the lowest (R36 to R39).
-/

set_option Elab.async false

namespace Sys2Proof.Proofs

open Sys2Proof Sys2Proof.Machine Sys2Proof.Safety Sys2Proof.Laws

/-! ## The tags of one step -/

/-- The place of an owner in the fixed order (R38). -/
def rank : Owner → Nat
  | .host => 0
  | .channel c => c.val + 1

theorem ownerOrder_ranked : ownerOrder.Pairwise fun o p => rank o < rank p := by decide

/-- QUEUED now and not before. -/
def NewlyQueued (s t : State) (g : Tag) : Prop := (s.entry g).state ≠ .queued ∧ (t.entry g).state = .queued

/-- The tags given so far are lower than every FREE one, go to earlier owners first, and none went to an owner still to come. -/
structure InTurn (s : State) (l : List Owner) (t : State) : Prop where
  ready : Ready t
  lower : ∀ g x, NewlyQueued s t g → (t.entry x).state = .free → g < x
  order : ∀ g h, NewlyQueued s t g → NewlyQueued s t h → rank (t.entry g).owner < rank (t.entry h).owner → g < h
  before : ∀ g, NewlyQueued s t g → ∀ o ∈ l, rank (t.entry g).owner < rank o

section
variable {s t u : State} {o : Owner} {l : List Owner}

theorem InTurn.tail (h : InTurn s (o :: l) t) : InTurn s l t :=
  ⟨h.ready, h.lower, h.order, fun g new p there => h.before g new p (List.mem_cons_of_mem o there)⟩

theorem InTurn.drop (h : InTurn s (o :: l) t) (waits : t.waits o = true) : InTurn s l (t.dropOwner o) := by
  have served := served_dropOwner waits
  have same : ∀ g, NewlyQueued s (t.dropOwner o) g → (t.dropOwner o).entry g = t.entry g ∧ NewlyQueued s t g := fun g new => by
    have eq := dropOwner_queued new.2
    exact ⟨eq, new.1, eq ▸ new.2⟩
  refine ⟨served.ready h.ready, fun g x new free => h.lower g x (same g new).2 (served.free x free), fun g x newG newX less => ?_,
    fun g new p there => ?_⟩
  · rw [(same g newG).1, (same x newX).1] at less
    exact h.order g x (same g newG).2 (same x newX).2 less
  · rw [(same g new).1]
    exact h.before g (same g new).2 p (List.mem_cons_of_mem o there)

theorem InTurn.give {g : Tag} (h : InTurn s (o :: l) t) (ranked : (o :: l).Pairwise fun o p => rank o < rank p)
    (lowest : t.lowestFree = some g) (given : Given o g t u) : InTurn s l u := by
  have free := free_of_lowestFree t lowest
  have others := given.others
  obtain ⟨-, owner⟩ := given.entry
  have earlier : ∀ x, x ≠ g → NewlyQueued s u x → NewlyQueued s t x := fun x other new => by
    rw [NewlyQueued, others x other] at new
    exact new
  have stillFree : ∀ x, (u.entry x).state = .free → x ≠ g ∧ (t.entry x).state = .free := fun x freed =>
    ⟨fun same => EntryState.noConfusion (given.entry.1.symm.trans (same ▸ freed)), given.free x freed⟩
  refine ⟨given.toServed.ready h.ready, fun x y new freed => ?_, fun x y newX newY less => ?_, fun x new p there => ?_⟩
  · obtain ⟨other, freeT⟩ := stillFree y freed
    by_cases same : x = g
    · subst same
      exact lt_of_le_of_ne (le_of_lowestFree lowest freeT) (Ne.symm other)
    · exact h.lower x y (earlier x same new) freeT
  · by_cases sameX : x = g
    · subst sameX
      by_cases sameY : y = x
      · rw [sameY] at less
        exact absurd less (Nat.lt_irrefl _)
      · have mine := h.before y (earlier y sameY newY) o List.mem_cons_self
        rw [owner, others y sameY] at less
        exact absurd (less.trans mine) (Nat.lt_irrefl _)
    · by_cases sameY : y = g
      · subst sameY
        exact h.lower x y (earlier x sameX newX) free
      · rw [others x sameX, others y sameY] at less
        exact h.order x y (earlier x sameX newX) (earlier y sameY newY) less
  · by_cases same : x = g
    · rw [same, owner]
      exact List.rel_of_pairwise_cons ranked there
    · rw [others x same]
      exact h.before x (earlier x same new) p (List.mem_cons_of_mem o there)

/-- An owner's turn changes nothing, gives it the lowest FREE tag, or ends it. -/
theorem grantTag_cases (ready : Ready t) (o : Owner) : t.grantTag o = t ∨
    t.waits o = true ∧ ((∃ g, t.lowestFree = some g ∧ Given o g t (t.grantTag o)) ∨ t.grantTag o = t.dropOwner o) := by
  cases waits : t.waits o with
  | false => exact .inl (grantTag_of_not_waits waits)
  | true =>
    cases lowest : t.lowestFree with
    | none => exact .inl (by rw [State.grantTag, lowest])
    | some g =>
      obtain ⟨given, dropped⟩ := offered_cases (ready.pending.answerable waits) waits (free_of_lowestFree t lowest)
      refine .inr ⟨rfl, ?_⟩
      rw [grantTag_of_waits lowest waits]
      cases usable : t.peerUsable (t.peerOf o) with
      | true => exact .inl ⟨g, rfl, given usable⟩
      | false => exact .inr (dropped usable)

theorem InTurn.grantTag (h : InTurn s (o :: l) t) (ranked : (o :: l).Pairwise fun o p => rank o < rank p) :
    InTurn s l (t.grantTag o) := by
  rcases grantTag_cases h.ready o with same | ⟨waits, ⟨g, lowest, given⟩ | dropped⟩
  · rw [same]
    exact h.tail
  · exact h.give ranked lowest given
  · rw [dropped]
    exact h.drop waits

theorem inTurn_foldl (ranked : l.Pairwise fun o p => rank o < rank p) (h : InTurn s l t) :
    InTurn s [] (l.foldl State.grantTag t) := by
  induction l generalizing t with
  | nil => exact h
  | cons o l ih => exact ih (List.pairwise_cons.mp ranked).2 (h.grantTag ranked)

/-- The work before the allocation makes no entry QUEUED. -/
theorem Working.not_queued (h : Working s t) {g : Tag} (other : (s.entry g).state ≠ .queued) : (t.entry g).state ≠ .queued := by
  refine h.keeps (P := fun u => (u.entry g).state ≠ .queued) (fun u v w hu => ?_) other
  cases w with
  | entry a e move =>
    rw [entry_setEntry]
    split
    · next same =>
      subst same
      cases move with
      | landing live =>
        rw [live]
        decide
      | _ => nofun
    · exact hu
  | _ => exact hu

/-- Settling ends with the asking and the allocation (R37, R38). -/
theorem settleN_ends (n : Nat) (s : State) : ∃ v, Working s v ∧ State.settleN n s = v.settleOnce.askOwners.settleTags := by
  induction n generalizing s with
  | zero => exact ⟨s, .refl, rfl⟩
  | succ n ih =>
    have once := settleOnce_working s
    have asked := once.trans (askOwners_working s.settleOnce)
    have next : ∀ u, Working s u → ∃ v, Working s v ∧ State.settleN n u.dispatchHead = v.settleOnce.askOwners.settleTags :=
      fun u work => by
        obtain ⟨v, more, eq⟩ := ih u.dispatchHead
        exact ⟨v, (work.trans (dispatchHead_working u)).trans more, eq⟩
    rw [State.settleN]
    dsimp only
    split
    · exact next _ once
    · split
      · exact next _ asked
      · exact ⟨s, .refl, rfl⟩

theorem inTurn_settle (s : State) : InTurn s [] s.settle := by
  obtain ⟨v, work, eq⟩ := settleN_ends (2 * Config.receiveBufferSize) s
  have ready := ready_askOwners v
  have worked : Working s v.settleOnce.askOwners := (work.trans (settleOnce_working v)).trans (askOwners_working _)
  have tail : ∀ w : State, InTurn s [] w → InTurn s [] ((w.checkDrain).orderFetches s.port.fetches) := by
    rintro w ⟨ready, lower, order, before⟩
    have shape := checkDrain_eq w
    generalize w.checkDrain = x at shape
    rw [shape]
    exact ⟨⟨ready.starts, ready.asks, ready.pending, ready.engine⟩, lower, order, before⟩
  rw [State.settle, State.settleFrom, eq, State.settleTags]
  generalize v.settleOnce.askOwners = w at ready worked
  have none : ∀ g, ¬ NewlyQueued s w g := fun g new => worked.not_queued new.1 new.2
  exact tail _ (inTurn_foldl ownerOrder_ranked ⟨ready, fun g x new => absurd new (none g), fun g h new => absurd new (none g),
    fun g new => absurd new (none g)⟩)

end

/-! ## What settling leaves of a QUEUED entry while no frame waits -/

section
variable {s t : State}

/-- The owners served by an allocation. -/
theorem servedAll_grants {l : List Owner} (ready : Ready s) : ∃ k, ServedAll k s (l.foldl State.grantTag s) := by
  induction l generalizing s with
  | nil => exact ⟨[], .nil s⟩
  | cons o l ih =>
    rw [List.foldl_cons]
    have some : ∀ u, s.waits o = true → Served o s u → ∃ k, ServedAll k s (l.foldl State.grantTag u) := fun u waits served => by
      obtain ⟨k, rest⟩ := ih (served.ready ready)
      exact ⟨o :: k, .cons waits served rest⟩
    rcases grantTag_cases ready o with same | ⟨waits, ⟨g, -, given⟩ | dropped⟩
    · rw [same]
      exact ih ready
    · exact some _ waits given.toServed
    · rw [dropped]
      exact some _ waits (served_dropOwner waits)

theorem settleN_of_empty (empty : s.rx.buffer = []) (n : Nat) : State.settleN n s = s.settleOnce.askOwners.settleTags := by
  have once : s.settleOnce.rx.buffer = [] := by rw [(settleOnce_others s).1, empty]
  have asked : s.settleOnce.askOwners.rx.buffer = [] := by
    have suffix := (askOwners_own s.settleOnce).buffer
    rw [once] at suffix
    exact List.suffix_nil.mp suffix
  have calm : ∀ u : State, u.rx.buffer = [] → u.dispatchDue = false := fun u none => (calm_iff u).mp (.inl none)
  cases n with
  | zero => rfl
  | succ n =>
    rw [State.settleN]
    dsimp only
    rw [calm _ once, if_neg (by decide), calm _ asked, if_neg (by decide)]

/-- What no owner that waits can change is kept by the settling that no frame delays. -/
theorem settleFrom_keeps {P : State → Prop} (served : ∀ o s t, s.waits o = true → Served o s t → P s → P t)
    (start : P s.settleOnce.askChannels) (closing : ∀ u old, P u → P ((u.checkDrain).orderFetches old))
    (empty : s.rx.buffer = []) (old : List (ChannelNo × BurstRequest)) : P (s.settleFrom old) := by
  rw [State.settleFrom, settleN_of_empty empty, State.settleTags]
  obtain ⟨k, grants⟩ := servedAll_grants (l := ownerOrder) (ready_askOwners s)
  exact closing _ old (grants.keeps served ((servedAll_dropUnusable s.settleOnce.askChannels).keeps served start))

theorem askChannels_tracker (s : State) : s.askChannels.tracker = s.tracker := by
  obtain ⟨shape, -⟩ := askChannels_spec s
  rw [shape]

theorem askChannels_notices (s : State) : s.askChannels.notices = s.notices := by
  obtain ⟨shape, -⟩ := askChannels_spec s
  rw [shape]

theorem settleFrom_queued_entry {g : Tag} (queued : (s.entry g).state = .queued) (empty : s.rx.buffer = [])
    (old : List (ChannelNo × BurstRequest)) : (s.settleFrom old).entry g = s.entry g := by
  refine settleFrom_keeps (P := fun u => u.entry g = s.entry g) (fun o u v _ served hu => ?_) ?_ (fun u old hu => ?_) empty old
  · rw [served.queued g (by rw [hu]; exact queued), hu]
  · rw [entry_congr (askChannels_tracker s.settleOnce), entry_congr (settleOnce_others s).2.1]
  · rw [orderFetches_entry, checkDrain_entry, hu]

theorem settleFrom_tagged_slot {g : Tag} (tagged : s.notices.slot.state = .sending (.tagged g)) (empty : s.rx.buffer = [])
    (old : List (ChannelNo × BurstRequest)) : (s.settleFrom old).notices.slot = s.notices.slot := by
  refine settleFrom_keeps (P := fun u => u.notices.slot = s.notices.slot) (fun o u v waits served hu => ?_) ?_
    (fun u old hu => ?_) empty old
  · rw [served.slot, hu]
    rintro rfl
    rw [State.waits, State.slotWaits, hu, tagged] at waits
    cases waits
  · rw [askChannels_notices, (settleOnce_others s).2.2.2.1]
  · rw [orderFetches_notices, checkDrain_notices, hu]

end

/-! ## TAG_ALLOCATION -/

section
variable {s : State} {o p : Owner} {g h : Tag}

theorem tagAllocation_of_waits (high : s.host.resetLow = false) (lowest : s.lowestFree = some g) (waits : s.waits o = true) :
    exec .tagAllocation s = .next (s.allocateTags.settleFrom s.port.fetches) := by
  have some : ownerOrder.any s.waits = true := List.any_eq_true.mpr ⟨o, mem_ownerOrder o, waits⟩
  rw [exec_takes State.tagAllocation rfl high, State.tagAllocation, if_pos (by rw [lowest, some]; rfl)]

/-- Where two owners wait, the earlier is offered the lowest FREE tag and the later the next. -/
theorem allocateTags_of_two (ranked : rank o < rank p) (lowest : s.lowestFree = some g) (waits : s.waits o = true)
    (next : (offered s o g).lowestFree = some h) (waitsNext : (offered s o g).waits p = true)
    (others : ∀ q, q ≠ o → q ≠ p → s.waits q = false ∧ (offered s o g).waits q = false ∧
      (offered (offered s o g) p h).waits q = false) : s.allocateTags = offered (offered s o g) p h := by
  obtain ⟨l, r, order⟩ := List.append_of_mem (mem_ownerOrder o)
  have sorted := ownerOrder_ranked
  have there : p ∈ l ++ o :: r := order ▸ mem_ownerOrder p
  rw [order] at sorted
  obtain ⟨-, right, apart⟩ := List.pairwise_append.mp sorted
  have after : p ∈ r := by
    rcases List.mem_append.mp there with h | h
    · exact absurd (ranked.trans (apart p h o List.mem_cons_self)) (Nat.lt_irrefl _)
    · rcases List.mem_cons.mp h with rfl | h
      · exact absurd ranked (Nat.lt_irrefl _)
      · exact h
  obtain ⟨m, k, split⟩ := List.append_of_mem after
  have fresh := ownerOrder_nodup
  rw [order, split] at fresh
  have distinct : ∀ q, (q ∈ l ∨ q ∈ m ∨ q ∈ k) → q ≠ o ∧ q ≠ p := by
    intro q there
    constructor <;> rintro rfl <;> simp [List.nodup_append, List.nodup_cons] at fresh <;> grind
  have quiet : ∀ (u : State) (j : List Owner), (∀ q ∈ j, u.waits q = false) → j.foldl State.grantTag u = u := fun u j =>
    foldl_grantTag_of_none
  rw [State.allocateTags, order, split, List.foldl_append, List.foldl_cons, List.foldl_append, List.foldl_cons,
    quiet s l fun q there => (others q (distinct q (.inl there)).1 (distinct q (.inl there)).2).1,
    grantTag_of_waits lowest waits,
    quiet _ m fun q there => (others q (distinct q (.inr (.inl there))).1 (distinct q (.inr (.inl there))).2).2.1,
    grantTag_of_waits next waitsNext,
    quiet _ k fun q there => (others q (distinct q (.inr (.inr there))).1 (distinct q (.inr (.inr there))).2).2.2]

theorem lowestFree_of_least (free : (s.entry g).state = .free) (least : ∀ x, (s.entry x).state = .free → g ≤ x) :
    s.lowestFree = some g := by
  cases lowest : s.lowestFree with
  | none => exact absurd free ((lowestFree_iff s).mp lowest g)
  | some x => rw [le_antisymm (least x (free_of_lowestFree s lowest)) (le_of_lowestFree lowest free)]

/-- Two owners that wait, of usable peers: each has its tag after the step, the earlier the lower. -/
theorem two_owners_given (high : s.host.resetLow = false) (empty : s.rx.buffer = []) (ranked : rank o < rank p)
    (lowest : s.lowestFree = some g) (freeNext : (s.entry h).state = .free) (least : ∀ x, (s.entry x).state = .free → x = g ∨ h ≤ x)
    (less : g < h) (waits : s.waits o = true) (waitsNext : s.waits p = true) (others : ∀ q, q ≠ o → q ≠ p → s.waits q = false)
    (answer : Answerable s o) (answerNext : Answerable s p) (usable : s.peerUsable (s.peerOf o) = true)
    (usableNext : s.peerUsable (s.peerOf p) = true) : ∃ u, Given o g s (offered s o g) ∧ Given p h (offered s o g) u ∧
      exec .tagAllocation s = .next (u.settleFrom s.port.fetches) ∧ u.rx.buffer = [] ∧
      ((u.settleFrom s.port.fetches).entry g = u.entry g ∧ (u.settleFrom s.port.fetches).entry h = u.entry h) ∧
      ((u.entry g).state = .queued ∧ (u.entry g).owner = o) ∧ (u.entry h).state = .queued ∧ (u.entry h).owner = p := by
  have free := free_of_lowestFree s lowest
  have first := (offered_cases answer waits free).1 usable
  have apart : p ≠ o := fun e => absurd ranked (by rw [e]; exact Nat.lt_irrefl _)
  have shell := tagAllocation_of_waits high lowest waits
  have two := allocateTags_of_two (s := s) (g := g) (h := h) ranked lowest waits
  generalize offered s o g = t at first two
  have served := first.toServed
  have freeT : (t.entry h).state = .free := by rw [first.others h less.ne']; exact freeNext
  have next : t.lowestFree = some h := lowestFree_of_least freeT fun x freed =>
    (least x (served.free x freed)).resolve_left fun e => by
      rw [e, first.entry.1] at freed
      cases freed
  have waitsT : t.waits p = true := (served.waits_other apart).trans waitsNext
  have answerT : Answerable t p := by
    rintro c rfl running
    rw [served.channels c apart.symm] at running ⊢
    exact answerNext c rfl running
  have second := (offered_cases answerT waitsT freeT).1 (by
    rw [served.peerOf apart, peerUsable_congr served.member]
    exact usableNext)
  have later : ∀ q, q ≠ o → q ≠ p → s.waits q = false ∧ t.waits q = false ∧ (offered t p h).waits q = false := fun q no np => by
    have idle := others q no np
    have idleT := (served.waits_other no).trans idle
    exact ⟨idle, idleT, (second.toServed.waits_other np).trans idleT⟩
  rw [two next waitsT later] at shell
  generalize offered t p h = u at second shell
  have keptG : u.entry g = t.entry g := second.others g less.ne
  have bufferU : u.rx.buffer = [] := by rw [second.rx, first.rx, empty]
  have queuedG : (u.entry g).state = .queued := by rw [keptG]; exact first.entry.1
  exact ⟨u, first, second, shell, bufferU,
    ⟨settleFrom_queued_entry queuedG bufferU _, settleFrom_queued_entry second.entry.1 bufferU _⟩,
    ⟨queuedG, by rw [keptG]; exact first.entry.2⟩, second.entry⟩

end

theorem peerUsable_iff (s : State) (n : StationNo) :
    s.peerUsable n = true ↔ s.isPresent n = true ∧ (s.rosterEntry n).leaving = false := by
  simp only [State.peerUsable, Bool.and_eq_true, Bool.not_eq_true']

theorem peerUsable_of_gone {s : State} {n : StationNo} (gone : s.isPresent n = false ∨ (s.rosterEntry n).leaving = true) :
    s.peerUsable n = false := by
  rw [← Bool.not_eq_true, peerUsable_iff]
  rintro ⟨present, staying⟩
  rcases gone with h | h
  · rw [h] at present; cases present
  · rw [h] at staying; cases staying

/-- One owner waits: the step is its offer and what follows it. -/
theorem tagAllocation_of_one {s : State} {o : Owner} {g : Tag} (high : s.host.resetLow = false) (lowest : s.lowestFree = some g)
    (waits : s.waits o = true) (alone : ∀ p, p ≠ o → s.waits p = false) (answer : Answerable s o) :
    exec .tagAllocation s = .next ((offered s o g).settleFrom s.port.fetches) := by
  have served := served_offered answer waits (free_of_lowestFree s lowest)
  rw [tagAllocation_of_waits high lowest waits,
    allocateTags_of_one lowest waits alone fun p other => (served.waits_other other).trans (alone p other)]

theorem alone_host {s : State} (others : ∀ c, (s.channel c).waiting = false) : ∀ p, p ≠ .host → s.waits p = false := by
  intro p other
  cases p with
  | channel c => exact waits_channel_of_not_waiting (others c)
  | host => exact absurd rfl other

theorem alone_channel {s : State} {c : ChannelNo} (slot : s.slotWaits = false)
    (others : ∀ d, d ≠ c → (s.channel d).waiting = false) : ∀ p, p ≠ .channel c → s.waits p = false := by
  intro p other
  cases p with
  | channel d => exact waits_channel_of_not_waiting (others d fun e => other (e ▸ rfl))
  | host => exact slot

theorem waits_channel {s : State} {c : ChannelNo} (waiting : (s.channel c).waiting = true) (wants : s.wantsTag c = true) :
    s.waits (.channel c) = true := by
  rw [State.waits, waiting, wants]
  rfl

theorem answerable_running {s : State} {c : ChannelNo} (pending : (s.channel c).records.any SegRecord.isPending = true) :
    Answerable s (.channel c) := by
  rintro d same -
  cases same
  exact pending

theorem answerable_notifying {s : State} {c : ChannelNo} (notifying : (s.channel c).state = .notifying) :
    Answerable s (.channel c) := by
  rintro d same running
  cases same
  rw [notifying] at running
  cases running

theorem answerable_host (s : State) : Answerable s .host := nofun

/-- A waiting channel whose peer is not usable ends with its code and stays ended. -/
theorem tagAllocation_ends {s : State} {c : ChannelNo} {g : Tag} {k : TermCode} (high : s.host.resetLow = false)
    (lowest : s.lowestFree = some g) (waits : s.waits (.channel c) = true) (alone : ∀ p, p ≠ .channel c → s.waits p = false)
    (answer : Answerable s (.channel c)) (unusable : s.peerUsable (s.channel c).desc.peer = false)
    (code : (if (s.channel c).state = .notifying then TermCode.noticeFailed else .peerAbsent) = k) :
    ∃ t, exec .tagAllocation s = .next t ∧ t.channel c = (s.channel c).ended k none ∧ OwnsNone t c := by
  have offer := (offered_cases answer waits (free_of_lowestFree s lowest)).2 unusable
  have shell := tagAllocation_of_one high lowest waits alone answer
  rw [offer, State.dropOwner, code] at shell
  have channel := endChannel_channel_self s c k none
  obtain ⟨ended, payload, owns, -⟩ := endedAs_endChannel s c k none
  obtain ⟨same, none⟩ := settleFrom_ended _ s.port.fetches ended payload owns
  exact ⟨_, shell, same.trans channel, none⟩

/-- Settles O29. -/
theorem tagsAreOffered : Obligations.TagsAreOffered := by
  refine ⟨fun g s high lowest => ⟨fun waits others present staying => ?_, fun waits others gone => ?_,
    fun c slot others waiting wants running pending gone => ?_,
    fun c slot others waiting wants running present staying before after r records first pending => ?_,
    fun c n slot others waiting wants notifying notice => ⟨fun present staying => ?_, fun gone => ?_⟩,
    fun c h empty less freeNext least waiting wants running pending present staying => ⟨fun slot others here stays => ?_,
      fun d below slot others waitingD wantsD runningD pendingD presentD stayingD => ?_⟩, fun none => ?_⟩, fun s g h fresh queued => ?_⟩
  · have free := free_of_lowestFree s lowest
    have usable : s.peerUsable s.notices.slot.peer = true := (peerUsable_iff _ _).mpr ⟨present, staying⟩
    rw [tagAllocation_of_one (o := .host) high lowest waits (alone_host others) (answerable_host s), offered, State.offerSlot,
      if_pos usable]
    rfl
  · rw [tagAllocation_of_one (o := .host) high lowest waits (alone_host others) (answerable_host s), offered, State.offerSlot,
      if_neg (Bool.eq_false_iff.mp (peerUsable_of_gone gone))]
    rfl
  · obtain ⟨t, shell, channel, owns⟩ := tagAllocation_ends (k := .peerAbsent) high lowest (waits_channel waiting wants)
      (alone_channel slot others) (answerable_running pending) (peerUsable_of_gone gone) (if_neg (by rw [running]; decide))
    exact ⟨t, shell, by rw [channel]; rfl, by rw [channel]; rfl, by rw [channel]; rfl, owns⟩
  · have may : s.mayIssue c = true := by
      rw [wantsTag_of_running running] at wants
      exact (Bool.and_eq_true_iff.mp wants).1
    have asked : s = s.setChannel c { s.channel c with
        waiting := true, records := before ++ r :: after, cutOffset := (s.channel c).cutOffset } := by
      rw [← records, ← waiting]
      exact (setChannel_same s c).symm
    rw [tagAllocation_of_waits high lowest (waits_channel waiting wants),
      allocateTags_of_segment asked first pending running may slot others lowest ((peerUsable_iff _ _).mpr ⟨present, staying⟩)]
  · rw [tagAllocation_of_one high lowest (waits_channel waiting wants) (alone_channel slot others) (answerable_notifying notifying),
      offered, offerChannel_of_notifying notifying notice, if_pos ((peerUsable_iff _ _).mpr ⟨present, staying⟩)]
    rfl
  · obtain ⟨t, shell, channel, -⟩ := tagAllocation_ends (k := .noticeFailed) high lowest (waits_channel waiting wants)
      (alone_channel slot others) (answerable_notifying notifying) (peerUsable_of_gone gone) (if_pos notifying)
    exact ⟨t, shell, by rw [channel]; rfl, by rw [channel]; rfl, by rw [channel]; rfl⟩
  · obtain ⟨u, given, second, shell, empty', ⟨keptG, keptH⟩, ⟨queuedG, ownerG⟩, queuedH, ownerH⟩ := two_owners_given
      (o := .host) (p := .channel c) high empty (Nat.succ_pos _) lowest freeNext least less slot (waits_channel waiting wants)
      (fun q notHost other => by
        cases q with
        | channel e => exact waits_channel_of_not_waiting (others e fun same => other (same ▸ rfl))
        | host => exact absurd rfl notHost)
      (answerable_host s) (answerable_running pending) ((peerUsable_iff _ _).mpr ⟨here, stays⟩)
      ((peerUsable_iff _ _).mpr ⟨present, staying⟩)
    have tagged : u.notices.slot.state = .sending (.tagged g) := by
      rw [second.toServed.slot nofun, offered, State.offerSlot, if_pos ((peerUsable_iff _ _).mpr ⟨here, stays⟩)]
      rfl
    refine ⟨_, shell, ?_, ?_⟩
    · rw [settleFrom_tagged_slot tagged empty', tagged]
    · rw [keptG, keptH]
      exact ⟨queuedG, ownerG, queuedH, ownerH⟩
  · obtain ⟨u, -, -, shell, -, ⟨keptG, keptH⟩, ⟨queuedG, ownerG⟩, queuedH, ownerH⟩ := two_owners_given
      (o := .channel c) (p := .channel d) high empty (Nat.succ_lt_succ below) lowest freeNext least less
      (waits_channel waiting wants) (waits_channel waitingD wantsD)
      (fun q notC notD => by
        cases q with
        | channel e => exact waits_channel_of_not_waiting (others e (fun same => notC (same ▸ rfl)) fun same => notD (same ▸ rfl))
        | host => exact slot)
      (answerable_running pending) (answerable_running pendingD) ((peerUsable_iff _ _).mpr ⟨present, staying⟩)
      ((peerUsable_iff _ _).mpr ⟨presentD, stayingD⟩)
    refine ⟨_, shell, ?_⟩
    rw [keptG, keptH]
    exact ⟨queuedG, ownerG, queuedH, ownerH⟩
  · have no : ownerOrder.any s.waits = false := List.any_eq_false.mpr fun o there => by rw [none o there]; decide
    rw [exec_takes State.tagAllocation rfl high, State.tagAllocation, no, Bool.and_false, if_neg (by decide)]
  · obtain ⟨-, lower, order, -⟩ := inTurn_settle s
    refine ⟨fun x less free => absurd (less.trans (lower g x ⟨fresh, queued⟩ free)) (lt_irrefl x), fun freshH queuedH owners =>
      order g h ⟨fresh, queued⟩ ⟨freshH, queuedH⟩ ?_⟩
    rcases owners with ⟨first, later⟩ | ⟨c, d, first, later, less⟩
    · rw [first]
      cases owner : (s.settle.entry h).owner with
      | channel c => exact Nat.succ_pos _
      | host => exact absurd owner later
    · rw [first, later]
      exact Nat.succ_lt_succ less

end Sys2Proof.Proofs
end


section
/-!
A channel's OUTSTANDING records and the requests it has in flight, tag by tag. Between the write that ends a request and the report
of its result the two differ by that tag, so the match is stated with the tags whose results are due (R14, R17 to R26).
-/

set_option Elab.async false

namespace Sys2Proof.Proofs

open Sys2Proof Sys2Proof.Machine Sys2Proof.Safety Sys2Proof.Laws

/-! ## The tags of OUTSTANDING records -/

section
variable {l : List SegRecord} {r : SegRecord} {g : Tag}

theorem outstandingTags_cons_of (state : r.state = .outstanding g) : outstandingTags (r :: l) = g :: outstandingTags l := by
  simp [outstandingTags, state]

theorem outstandingTags_cons_other (other : ∀ g, r.state ≠ .outstanding g) : outstandingTags (r :: l) = outstandingTags l := by
  cases state : r.state with
  | outstanding g => exact absurd state (other g)
  | _ => simp [outstandingTags, state]

theorem outstanding_or (r : SegRecord) : (∃ g, r.state = .outstanding g) ∨ ∀ g, r.state ≠ .outstanding g := by
  cases state : r.state with
  | outstanding g => exact .inl ⟨g, rfl⟩
  | _ => exact .inr nofun

theorem mem_outstandingTags : g ∈ outstandingTags l ↔ ∃ r ∈ l, r.state = .outstanding g := by
  induction l with
  | nil => simp [outstandingTags]
  | cons r l ih =>
    rcases outstanding_or r with ⟨h, state⟩ | other
    · rw [outstandingTags_cons_of state, List.mem_cons, ih, List.exists_mem_cons_iff, state, SegState.outstanding.injEq]
      exact or_congr_left eq_comm
    · rw [outstandingTags_cons_other other, ih, List.exists_mem_cons_iff, or_iff_right (other g)]

theorem outstandingTags_append (l k : List SegRecord) : outstandingTags (l ++ k) = outstandingTags l ++ outstandingTags k :=
  List.filterMap_append

/-- A rewriting that leaves the OUTSTANDING records leaves their tags. -/
theorem outstandingTags_map {f : SegRecord → SegRecord}
    (same : ∀ r g, (f r).state = .outstanding g ↔ r.state = .outstanding g) (l : List SegRecord) :
    outstandingTags (l.map f) = outstandingTags l := by
  induction l with
  | nil => rfl
  | cons r l ih =>
    rw [List.map_cons]
    rcases outstanding_or r with ⟨g, state⟩ | other
    · rw [outstandingTags_cons_of state, outstandingTags_cons_of ((same r g).mpr state), ih]
    · rw [outstandingTags_cons_other other, outstandingTags_cons_other fun g h => other g ((same r g).mp h), ih]

theorem outstandingTags_update {f : SegRecord → SegRecord} (ends : ∀ r g, (f r).state ≠ .outstanding g) (t : Tag)
    (l : List SegRecord) : outstandingTags (l.map fun r => if r.state = .outstanding t then f r else r) =
      (outstandingTags l).filter (· ≠ t) := by
  induction l with
  | nil => rfl
  | cons r l ih =>
    rw [List.map_cons]
    rcases outstanding_or r with ⟨g, state⟩ | other
    · by_cases same : g = t
      · subst same
        rw [if_pos state, outstandingTags_cons_other (ends r), outstandingTags_cons_of state, ih]
        simp
      · rw [if_neg (by rw [state]; simpa using same), outstandingTags_cons_of state, outstandingTags_cons_of state, ih]
        simp [same]
    · rw [if_neg (other t), outstandingTags_cons_other other, outstandingTags_cons_other other, ih]

/-- Issuing makes the first PENDING record OUTSTANDING with its tag (R15). -/
theorem outstandingTags_issueFirst (t : Tag) (pending : l.any SegRecord.isPending = true) :
    (outstandingTags (issueFirst t l)).Perm (t :: outstandingTags l) := by
  induction l with
  | nil => cases pending
  | cons r l ih =>
    unfold issueFirst
    split
    · next here =>
      have state : r.state = .pending := by simpa [SegRecord.isPending] using here
      rw [outstandingTags_cons_of rfl, outstandingTags_cons_other (r := r) (by rw [state]; nofun)]
    · next here =>
      rw [List.any_cons, Bool.eq_false_iff.mpr here, Bool.false_or] at pending
      rcases outstanding_or r with ⟨g, state⟩ | other
      · rw [outstandingTags_cons_of state, outstandingTags_cons_of state]
        exact ((ih pending).cons g).trans (List.Perm.swap t g _)
      · rw [outstandingTags_cons_other other, outstandingTags_cons_other other]
        exact ih pending

theorem outstandingTags_popDone (front : Nat) (l : List SegRecord) :
    outstandingTags (popDone front l).2 = outstandingTags l := by
  induction l generalizing front with
  | nil => rfl
  | cons r l ih =>
    unfold popDone
    split
    · next done => rw [ih, outstandingTags_cons_other (by rw [done.2]; nofun)]
    · rfl

theorem outstandingTags_advance (ch : Channel) : outstandingTags ch.advance.records = outstandingTags ch.records := by
  unfold Channel.advance
  dsimp only
  split
  · rfl
  · exact outstandingTags_popDone _ _

theorem count_eq_tags (ch : Channel) : ch.outstandingCount = (outstandingTags ch.records).length := by
  unfold Channel.outstandingCount
  generalize ch.records = l
  induction l with
  | nil => rfl
  | cons r l ih =>
    rcases outstanding_or r with ⟨g, state⟩ | other
    · rw [outstandingTags_cons_of state, List.filter_cons_of_pos (by simp [SegRecord.isOutstanding, state]), List.length_cons,
        List.length_cons, ih]
    · rw [outstandingTags_cons_other other, List.filter_cons_of_neg, ih]
      cases state : r.state with
      | outstanding g => exact absurd state (other g)
      | _ => simp [SegRecord.isOutstanding, state]

end

/-! ## The tiling of the window (R11, R17) -/

section
variable {a b : Nat} {l : List SegRecord}

theorem tiles_map {f : SegRecord → SegRecord} (same : ∀ r, (f r).offset = r.offset ∧ (f r).length = r.length) :
    Tiles a b (l.map f) ↔ Tiles a b l := by
  induction l generalizing a with
  | nil => exact Iff.rfl
  | cons r l ih =>
    obtain ⟨offset, length⟩ := same r
    rw [List.map_cons, Tiles, Tiles, offset, length, ih]

theorem tiles_issueFirst (t : Tag) (tiles : Tiles a b l) : Tiles a b (issueFirst t l) := by
  induction l generalizing a with
  | nil => exact tiles
  | cons r l ih =>
    obtain ⟨offset, length, rest⟩ := tiles
    unfold issueFirst
    split
    · exact ⟨offset, length, rest⟩
    · exact ⟨offset, length, ih rest⟩

theorem tiles_popDone (tiles : Tiles a b l) : Tiles (popDone a l).1 b (popDone a l).2 := by
  induction l generalizing a with
  | nil => exact tiles
  | cons r l ih =>
    obtain ⟨offset, length, rest⟩ := tiles
    unfold popDone
    split
    · exact ih rest
    · exact ⟨offset, length, rest⟩

theorem tiles_append {c : Nat} {r : SegRecord} (tiles : Tiles a b l) (offset : r.offset = b) (positive : 0 < r.length)
    (end_ : b + r.length = c) : Tiles a c (l ++ [r]) := by
  induction l generalizing a with
  | nil =>
    cases tiles
    exact ⟨offset, positive, end_⟩
  | cons x l ih =>
    obtain ⟨at_, length, rest⟩ := tiles
    exact ⟨at_, length, ih rest⟩

theorem nil_of_tiles (tiles : Tiles a b l) (whole : b ≤ a) : l = [] := by
  cases l with
  | nil => rfl
  | cons r l =>
    obtain ⟨-, positive, rest⟩ := tiles
    have := le_of_tiles rest
    omega

end

/-! ## The shape of a channel in each of its states -/

section
variable {ch : Channel}

theorem shape_off (state : ch.state = .off) : ChannelShape ch ↔ ch.records = [] ∧ ch.notice = none := by
  rw [ChannelShape, state]

theorem shape_armed (state : ch.state = .armed) :
    ChannelShape ch ↔ ch.records = [] ∧ ch.notice = none ∧ ch.front = 0 ∧ 0 < ch.desc.segSize.toNat := by
  rw [ChannelShape, state]

theorem shape_working (state : ch.state = .running ∨ ch.state = .paused) :
    ChannelShape ch ↔ ch.notice = none ∧ 0 < ch.desc.segSize.toNat ∧ ch.cutOffset ≤ ch.desc.length.toNat ∧
      Tiles ch.front ch.cutOffset ch.records := by
  rcases state with state | state <;> rw [ChannelShape, state]

theorem shape_notifying (state : ch.state = .notifying) :
    ChannelShape ch ↔ ch.records = [] ∧ ch.notice ≠ none ∧ 0 < ch.desc.segSize.toNat := by
  rw [ChannelShape, state]

/-- What the shape reads of a channel. -/
theorem shape_congr {x y : Channel} (state : y.state = x.state) (records : y.records = x.records) (notice : y.notice = x.notice)
    (front : y.front = x.front) (cut : y.cutOffset = x.cutOffset) (desc : y.desc = x.desc) (h : ChannelShape x) :
    ChannelShape y := by
  unfold ChannelShape at h ⊢
  rw [state, records, notice, front, cut, desc]
  exact h

theorem shape_ended (ch : Channel) (k : TermCode) (r : Option RefuseReason) : ChannelShape (ch.ended k r) := ⟨rfl, rfl⟩

/-- A channel with records runs or is paused. -/
theorem working_of_records (shape : ChannelShape ch) (some : ch.records ≠ []) : ch.state = .running ∨ ch.state = .paused := by
  cases state : ch.state with
  | running => exact .inl rfl
  | paused => exact .inr rfl
  | off => exact absurd ((shape_off state).mp shape).1 some
  | armed => exact absurd ((shape_armed state).mp shape).1 some
  | notifying => exact absurd ((shape_notifying state).mp shape).1 some

theorem notifying_of_notice (shape : ChannelShape ch) (some : ch.notice ≠ none) : ch.state = .notifying := by
  cases state : ch.state with
  | notifying => rfl
  | off => exact absurd ((shape_off state).mp shape).2 some
  | armed => exact absurd ((shape_armed state).mp shape).2.1 some
  | running => exact absurd ((shape_working (.inl state)).mp shape).1 some
  | paused => exact absurd ((shape_working (.inr state)).mp shape).1 some

theorem segSize_pos (shape : ChannelShape ch) (busy : ch.state ≠ .off) : 0 < ch.desc.segSize.toNat := by
  cases state : ch.state with
  | off => exact absurd state busy
  | armed => exact ((shape_armed state).mp shape).2.2.2
  | running => exact ((shape_working (.inl state)).mp shape).2.1
  | paused => exact ((shape_working (.inr state)).mp shape).2.1
  | notifying => exact ((shape_notifying state).mp shape).2.2

theorem shape_updateRecord {f : SegRecord → SegRecord} (same : ∀ r, (f r).offset = r.offset ∧ (f r).length = r.length) (t : Tag)
    (working : ch.state = .running ∨ ch.state = .paused) (shape : ChannelShape ch) : ChannelShape (ch.updateRecord t f) := by
  obtain ⟨notice, size, cut, tiles⟩ := (shape_working working).mp shape
  refine (shape_working (ch := ch.updateRecord t f) working).mpr ⟨notice, size, cut, (tiles_map fun r => ?_).mpr tiles⟩
  split
  · exact same r
  · exact ⟨rfl, rfl⟩

theorem advance_eq (ch : Channel) : ∃ (remaining : Nat) (remote : BitVec 24) (l : Word), ch.advance = { ch with
    front := (popDone ch.front ch.records).1, records := (popDone ch.front ch.records).2, remaining := remaining
    curRemote := remote, curLocal := l } ∨
    ch.advance = ch := by
  unfold Channel.advance
  dsimp only
  split
  · exact ⟨0, 0, 0, .inr rfl⟩
  · exact ⟨_, _, _, .inl rfl⟩

theorem shape_advance (working : ch.state = .running ∨ ch.state = .paused) (shape : ChannelShape ch) : ChannelShape ch.advance := by
  obtain ⟨remaining, remote, l, h | h⟩ := advance_eq ch
  · obtain ⟨notice, size, cut, tiles⟩ := (shape_working working).mp shape
    rw [h]
    exact (shape_working (ch := { ch with
      front := (popDone ch.front ch.records).1, records := (popDone ch.front ch.records).2, remaining := remaining
      curRemote := remote, curLocal := l }) working).mpr ⟨notice, size, cut, tiles_popDone tiles⟩
  · rw [h]
    exact shape

end

/-! ## The match -/

/-- A READ or WRITE entry of the channel. -/
def RequestOf (e : Entry) (c : ChannelNo) : Prop := e.owner = .channel c ∧ e.kind ≠ .notice

/-- A request that has not been answered. -/
def Awaited (e : Entry) : Prop := e.state = .queued ∨ e.state = .live

/-- The match of records and requests, but for the tags whose results are due. -/
def Matches (due : Tag → Prop) (s : State) : Prop :=
  ∀ c : ChannelNo, ChannelShape (s.channel c) ∧ (outstandingTags (s.channel c).records).Nodup ∧
    ∀ g : Tag, g ∈ outstandingTags (s.channel c).records ↔ RequestOf (s.entry g) c ∧ (Awaited (s.entry g) ∨ due g)

/-- No result is due. -/
def Settled (_ : Tag) : Prop := False

theorem recordsMatch_iff (s : State) : RecordsMatch s ↔ Matches Settled s := by
  simp only [RecordsMatch, Matches, RequestOf, Awaited, Settled, or_false, and_assoc]

section
variable {s t : State} {due later : Tag → Prop} {c : ChannelNo} {g : Tag}

/-- Writes that keep the channels' shapes and tags, and of the entries which are awaited or due. -/
theorem Matches.of_same (h : Matches due s) (channels : ∀ c, ChannelShape (s.channel c) → ChannelShape (t.channel c) ∧
      outstandingTags (t.channel c).records = outstandingTags (s.channel c).records)
    (entries : ∀ c g, RequestOf (t.entry g) c ∧ (Awaited (t.entry g) ∨ later g) ↔
      RequestOf (s.entry g) c ∧ (Awaited (s.entry g) ∨ due g)) : Matches later t := by
  intro c
  obtain ⟨shape, once, tags⟩ := h c
  obtain ⟨shape', same⟩ := channels c shape
  exact ⟨shape', by rw [same]; exact once, fun g => by rw [same, tags, entries]⟩

theorem Matches.tables (h : Matches due s) (channels : ∀ c, t.channel c = s.channel c) (entries : ∀ g, t.entry g = s.entry g) :
    Matches due t :=
  h.of_same (fun c shape => by rw [channels]; exact ⟨shape, rfl⟩) fun c g => by rw [entries]

theorem Matches.setChannel {x : Channel} (h : Matches due s) (shape : ChannelShape (s.channel c) → ChannelShape x)
    (tags : outstandingTags x.records = outstandingTags (s.channel c).records) : Matches due (s.setChannel c x) := by
  refine h.of_same (fun d before => ?_) fun _ _ => Iff.rfl
  by_cases same : d = c
  · subst same
    rw [channel_setChannel_self]
    exact ⟨shape before, tags⟩
  · rw [channel_setChannel_other s same]
    exact ⟨before, rfl⟩

theorem Matches.setEntry {e : Entry} (h : Matches due s) (owner : e.owner = (s.entry g).owner) (kind : e.kind = (s.entry g).kind)
    (awaited : Awaited e ↔ Awaited (s.entry g)) : Matches due (s.setEntry g e) := by
  refine h.of_same (fun c shape => ⟨shape, rfl⟩) fun c x => ?_
  rw [entry_setEntry]
  split
  · next same =>
    subst same
    rw [RequestOf, RequestOf, owner, kind, awaited]
  · exact Iff.rfl

/-- A request ends: its result is due. -/
theorem Matches.lose {e : Entry} (h : Matches due s) (owner : e.owner = (s.entry g).owner) (kind : e.kind = (s.entry g).kind)
    (awaited : Awaited (s.entry g)) : Matches (fun x => due x ∨ x = g) (s.setEntry g e) := by
  refine h.of_same (fun c shape => ⟨shape, rfl⟩) fun c x => ?_
  rw [entry_setEntry]
  split
  · next same =>
    subst same
    rw [RequestOf, RequestOf, owner, kind]
    exact and_congr_right fun _ => ⟨fun _ => .inl awaited, fun _ => .inr (.inr rfl)⟩
  · next other => rw [or_iff_left other]

/-- A result that is due for no record is due no longer. -/
theorem Matches.forget (h : Matches due s) (gone : ¬ Awaited (s.entry g))
    (absent : ∀ c, RequestOf (s.entry g) c → g ∉ outstandingTags (s.channel c).records) :
    Matches (fun x => due x ∧ x ≠ g) s := by
  refine h.of_same (fun c shape => ⟨shape, rfl⟩) fun c x => ?_
  by_cases same : x = g
  · subst same
    refine ⟨fun ⟨own, why⟩ => absurd why (not_or.mpr ⟨gone, fun k => k.2 rfl⟩), fun ⟨own, why⟩ => ?_⟩
    exact absurd (((h c).2.2 x).mpr ⟨own, why⟩) (absent c own)
  · rw [and_iff_left same]

/-! ## Ends -/

theorem matches_endChannel (h : Matches due s) (c : ChannelNo) (k : TermCode) (r : Option RefuseReason) :
    Matches (fun x => due x ∧ (s.entry x).owner ≠ .channel c) (s.endChannel c k r) := by
  have entries := endChannel_entry s c k r
  have channel := endChannel_channel_self s c k r
  have others := fun d (other : d ≠ c) => endChannel_channel_other s other k r
  generalize s.endChannel c k r = t at entries channel others
  intro d
  by_cases same : d = c
  · subst same
    rw [channel]
    refine ⟨shape_ended _ _ _, List.nodup_nil, fun g => ⟨fun there => (List.not_mem_nil there).elim, fun ⟨own, why⟩ => ?_⟩⟩
    rw [entries] at own why
    split at own
    · next mine =>
      rw [if_pos mine] at why
      rcases why with awaited | due
      · exact (awaited.elim (releasedEntry_not_held _).1 (releasedEntry_not_held _).2).elim
      · exact absurd mine due.2
    · next other => exact absurd own.1 other
  · obtain ⟨shape, once, tags⟩ := h d
    rw [others d same]
    refine ⟨shape, once, fun g => (tags g).trans ?_⟩
    rw [entries]
    split
    · next mine =>
      have apart : ∀ e : Entry, e.owner = .channel c → ¬ RequestOf e d := fun e own request =>
        same (Owner.channel.inj (own.symm.trans request.1)).symm
      exact ⟨fun h => absurd h.1 (apart _ mine), fun h => absurd h.1 (apart _ ((releasedEntry_owner _).trans mine))⟩
    · next other => exact and_congr_right fun _ => or_congr_right (and_iff_left other).symm

/-- The end of a channel while no result is due. -/
theorem settled_endChannel (h : Matches Settled s) (c : ChannelNo) (k : TermCode) (r : Option RefuseReason) :
    Matches Settled (s.endChannel c k r) := by
  have ended := matches_endChannel h c k r
  generalize s.endChannel c k r = t at ended ⊢
  exact ended.of_same (fun _ shape => ⟨shape, rfl⟩) fun _ _ => by simp only [Settled, false_and]

theorem matches_raiseIf (h : Matches due s) (p : Bool) (f : EventFlag) : Matches due (s.raiseIf p f) := by
  unfold State.raiseIf
  split
  · exact h.tables (fun _ => rfl) fun _ => rfl
  · exact h

theorem matches_normalEnd (h : Matches due s) (c : ChannelNo) (records : (s.channel c).records = [])
    (busy : (s.channel c).state ≠ .off) : Matches due (s.normalEnd c) := by
  refine matches_raiseIf (h.setChannel (fun shape => ?_) ?_) _ _
  · have size := segSize_pos shape busy
    dsimp only
    split
    · exact (shape_armed rfl).mpr ⟨rfl, rfl, rfl, size⟩
    · exact shape_ended _ _ _
  · rw [records]
    dsimp only
    split <;> rfl

/-- A transfer whose every byte is done has no record left (R24). -/
theorem matches_transferEnd (h : Matches due s) (working : (s.channel c).state = .running ∨ (s.channel c).state = .paused) :
    Matches due (s.transferEnd c) := by
  unfold State.transferEnd
  dsimp only
  split
  · next front =>
    have records : (s.channel c).records = [] := by
      obtain ⟨-, -, cut, tiles⟩ := (shape_working working).mp (h c).1
      exact nil_of_tiles tiles (by rw [front]; exact cut)
    have busy : (s.channel c).state ≠ .off := by
      rcases working with state | state <;> rw [state] <;> decide
    split
    · refine h.setChannel (fun shape => ?_) rfl
      have size := segSize_pos shape busy
      exact (shape_notifying (by rfl)).mpr ⟨records, nofun, size⟩
    · exact matches_normalEnd h c records busy
  · exact h

end

end Sys2Proof.Proofs
end


section
/-!
The match of records and requests through the work inside a step: results and releases, a peer's purge, starts, cuts, allocations
and dispatches (R7, R11 to R26, R36 to R39, R58 to R60, R162).
-/

set_option Elab.async false

namespace Sys2Proof.Proofs

open Sys2Proof Sys2Proof.Machine Sys2Proof.Safety Sys2Proof.Laws

section
variable {s t : State} {due : Tag → Prop} {c : ChannelNo} {g : Tag}

/-! ## Results -/

theorem Matches.settled (h : Matches due s) (none : ∀ x, ¬ due x) : Matches Settled s :=
  h.of_same (fun _ shape => ⟨shape, rfl⟩) fun _ x => by simp only [Settled, none x]

/-- The channel takes the result of the tag: no record of it is OUTSTANDING with it any more. -/
theorem Matches.taken {x : Channel} (h : Matches due s) (gone : ¬ Awaited (s.entry g)) (owner : (s.entry g).owner = .channel c)
    (shape : ChannelShape (s.channel c) → ChannelShape x)
    (tags : outstandingTags x.records = (outstandingTags (s.channel c).records).filter (· ≠ g)) :
    Matches (fun y => due y ∧ y ≠ g) (s.setChannel c x) := by
  intro d
  by_cases same : d = c
  · subst same
    obtain ⟨before, once, there⟩ := h d
    rw [channel_setChannel_self, tags]
    refine ⟨shape before, once.filter _, fun y => ?_⟩
    rw [List.mem_filter, there, decide_eq_true_eq]
    by_cases at_ : y = g
    · subst at_
      exact ⟨fun k => absurd rfl k.2, fun k => absurd k.2 (not_or.mpr ⟨gone, fun k => k.2 rfl⟩)⟩
    · exact ⟨fun k => ⟨k.1.1, k.1.2.imp_right fun d => ⟨d, at_⟩⟩, fun k => ⟨⟨k.1, k.2.imp_right And.left⟩, at_⟩⟩
  · obtain ⟨before, once, there⟩ := h d
    rw [channel_setChannel_other s same]
    refine ⟨before, once, fun y => (there y).trans ?_⟩
    by_cases at_ : y = g
    · subst at_
      have apart : ¬ RequestOf (s.entry y) d := fun request => same (Owner.channel.inj (owner.symm.trans request.1)).symm
      exact ⟨fun k => absurd k.1 apart, fun k => absurd k.1 apart⟩
    · exact and_congr_right fun _ => or_congr_right (and_iff_left at_).symm

/-- The result of a tag has been reported: none is due for it. -/
def Reported (due : Tag → Prop) (g : Tag) (t : State) : Prop := ∃ later : Tag → Prop, (∀ x, later x → due x ∧ x ≠ g) ∧ Matches later t

theorem reported_of_matches (h : Matches (fun x => due x ∧ x ≠ g) t) : Reported due g t := ⟨_, fun _ => id, h⟩

theorem reported_endChannel (h : Matches due s) (owner : (s.entry g).owner = .channel c) (k : TermCode) (r : Option RefuseReason) :
    Reported due g (s.endChannel c k r) :=
  ⟨_, fun _ ⟨there, other⟩ => ⟨there, fun same => other (same ▸ owner)⟩, matches_endChannel h c k r⟩

theorem records_of_recordOf {ch : Channel} {r : SegRecord} (found : ch.recordOf g = some r) : ch.records ≠ [] :=
  List.ne_nil_of_mem (List.mem_of_find?_eq_some found)

theorem matches_updateRecord (h : Matches due s) (gone : ¬ Awaited (s.entry g)) (owner : (s.entry g).owner = .channel c)
    (working : (s.channel c).state = .running ∨ (s.channel c).state = .paused) {f : SegRecord → SegRecord}
    (same : ∀ r, (f r).offset = r.offset ∧ (f r).length = r.length) (ends : ∀ r g, (f r).state ≠ .outstanding g) :
    Matches (fun x => due x ∧ x ≠ g) (s.modifyChannel c fun ch => ch.updateRecord g f) :=
  h.taken gone owner (shape_updateRecord same g working) (outstandingTags_update ends g _)

/-- The record that completes (R17). -/
def completed (ch : Channel) (g : Tag) : Channel := ch.updateRecord g fun r => { r with state := .done }

theorem shape_completed {ch : Channel} (working : ch.state = .running ∨ ch.state = .paused) (shape : ChannelShape ch) (g : Tag) :
    ChannelShape (completed ch g).advance :=
  shape_advance (ch := completed ch g) working
    (shape_updateRecord (f := fun r => { r with state := .done }) (fun _ => ⟨rfl, rfl⟩) g working shape)

theorem outstandingTags_completed (ch : Channel) (g : Tag) :
    outstandingTags (completed ch g).advance.records = (outstandingTags ch.records).filter (· ≠ g) := by
  rw [outstandingTags_advance]
  exact outstandingTags_update (f := fun r => { r with state := .done }) (fun _ _ => SegState.noConfusion) g _

theorem matches_completeSegment (h : Matches due s) (gone : ¬ Awaited (s.entry g)) (owner : (s.entry g).owner = .channel c)
    (working : (s.channel c).state = .running ∨ (s.channel c).state = .paused) :
    Matches (fun x => due x ∧ x ≠ g) (s.completeSegment c g) := by
  have taken := h.taken gone owner (fun shape => shape_completed working shape g) (outstandingTags_completed (s.channel c) g)
  refine matches_transferEnd (s := s.setChannel c (completed (s.channel c) g).advance) taken ?_
  rw [channel_setChannel_self, advance_state]
  exact working

theorem reported_segmentResult {r : SegRecord} (h : Matches due s) (gone : ¬ Awaited (s.entry g))
    (owner : (s.entry g).owner = .channel c) (found : (s.channel c).recordOf g = some r) (res : Result) :
    Reported due g (s.segmentResult c g r res) := by
  have working := working_of_records (h c).1 (records_of_recordOf found)
  have ends := reported_endChannel h owner
  have fails : ∀ k, Reported due g (s.failSegment c g r k) := fun k => by
    unfold State.failSegment
    split
    · exact reported_of_matches (matches_updateRecord h gone owner working (fun _ => ⟨rfl, rfl⟩) fun _ _ => SegState.noConfusion)
    · exact ends _ _
  unfold State.segmentResult
  split
  · exact reported_of_matches (matches_completeSegment h gone owner working)
  · exact fails _
  · exact fails _
  · unfold State.busySegment
    split
    · exact reported_of_matches (matches_updateRecord h gone owner working (fun _ => ⟨rfl, rfl⟩) fun _ _ => SegState.noConfusion)
    · exact ends _ _
  · exact ends _ _
  · exact ends _ _
  · exact ends _ _

theorem matches_setNotice (h : Matches due s) (notifying : (s.channel c).state = .notifying) (n : NoticeRecord) :
    Matches due (s.setNotice c n) := by
  refine h.setChannel (fun shape => ?_) rfl
  obtain ⟨records, -, size⟩ := (shape_notifying notifying).mp shape
  exact (shape_notifying (by exact notifying)).mpr ⟨records, nofun, size⟩

theorem reported_noticeResult (h : Matches due s) (gone : ¬ Awaited (s.entry g)) (owner : (s.entry g).owner = .channel c)
    (notifying : (s.channel c).state = .notifying) (n : NoticeRecord) (res : Result) :
    Reported due g (s.noticeResult c n res) := by
  have records := ((shape_notifying notifying).mp (h c).1).1
  have left : Matches (fun x => due x ∧ x ≠ g) s := h.forget gone fun d request => by
    rw [← Owner.channel.inj (owner.symm.trans request.1), records]
    exact List.not_mem_nil
  have ends := reported_endChannel h owner
  have busy : ∀ reason, Reported due g (s.busyNotice c n reason) := fun reason => by
    unfold State.busyNotice
    split
    · exact reported_of_matches (matches_setNotice left notifying _)
    · exact ends _ _
  unfold State.noticeResult
  split
  · exact reported_of_matches (matches_normalEnd left c records (by rw [notifying]; decide))
  · split
    · exact reported_of_matches (matches_setNotice left notifying _)
    · exact ends _ _
  · exact busy _
  · exact busy _
  · exact ends _ _
  · exact ends _ _
  · exact reported_of_matches left
  · exact reported_of_matches left

theorem slotResult_tables (s : State) (g : Tag) (res : Result) :
    (∀ c, (s.slotResult g res).channel c = s.channel c) ∧ ∀ x, (s.slotResult g res).entry x = s.entry x := by
  have busy : ∀ r, (∀ c, (s.busySlot r).channel c = s.channel c) ∧ ∀ x, (s.busySlot r).entry x = s.entry x := fun r => by
    unfold State.busySlot
    dsimp only
    split <;> exact ⟨fun _ => rfl, fun _ => rfl⟩
  unfold State.slotResult
  dsimp only
  split
  · split
    · exact ⟨fun _ => rfl, fun _ => rfl⟩
    · exact busy _
    · exact busy _
    · exact ⟨fun _ => rfl, fun _ => rfl⟩
    · split <;> exact ⟨fun _ => rfl, fun _ => rfl⟩
    · exact ⟨fun _ => rfl, fun _ => rfl⟩
    · exact ⟨fun _ => rfl, fun _ => rfl⟩
    · exact ⟨fun _ => rfl, fun _ => rfl⟩
  · exact ⟨fun _ => rfl, fun _ => rfl⟩

/-- A report takes its tag from those whose results are due (R60). -/
theorem reported_report {o : Owner} (h : Matches due s) (gone : ¬ Awaited (s.entry g)) (owner : (s.entry g).owner = o)
    (res : Result) : Reported due g (s.report o g res) := by
  cases o with
  | host =>
    obtain ⟨channels, entries⟩ := slotResult_tables s g res
    refine reported_of_matches ((h.forget gone fun c request => ?_).tables channels entries)
    cases owner.symm.trans request.1
  | channel c =>
    have mine : ∀ d, RequestOf (s.entry g) d → d = c := fun d request => (Owner.channel.inj (owner.symm.trans request.1)).symm
    unfold State.report State.channelResult
    dsimp only
    split
    · next n notice =>
      have notifying := notifying_of_notice (h c).1 (by rw [notice]; nofun)
      split
      · exact reported_noticeResult h gone owner notifying n res
      · refine reported_of_matches (h.forget gone fun d request => ?_)
        rw [mine d request, ((shape_notifying notifying).mp (h c).1).1]
        exact List.not_mem_nil
    · split
      · next r found => exact reported_segmentResult h gone owner found res
      · next missing =>
        refine reported_of_matches (h.forget gone fun d request there => ?_)
        rw [mine d request] at there
        obtain ⟨r, member, state⟩ := mem_outstandingTags.mp there
        exact absurd (decide_eq_true state) (List.find?_eq_none.mp missing r member)

/-- The report of the one result that is due. -/
theorem settled_report {o : Owner} (h : Matches (fun x => Settled x ∨ x = g) s) (gone : ¬ Awaited (s.entry g))
    (owner : (s.entry g).owner = o) (res : Result) : Matches Settled (s.report o g res) := by
  obtain ⟨later, less, matched⟩ := reported_report h gone owner res
  exact matched.settled fun x there => (less x there).1.elim id (less x there).2

/-! ## Entries that end -/

theorem not_awaited_freed (e : Entry) : ¬ Awaited e.freed := nofun
theorem not_awaited_abandon (e : Entry) : ¬ Awaited e.abandon := nofun
theorem not_awaited_quarantined (e : Entry) (us : Micros) : ¬ Awaited (e.quarantined us) := nofun

theorem not_awaited_of_abandoned {e : Entry} (abandoned : e.state = .abandoned) : ¬ Awaited e := by
  rw [Awaited, abandoned]
  nofun

theorem matches_endLanding (h : Matches due s) (x : Tag) : Matches due (s.endLanding x) :=
  h.tables (endLanding_channel s x) (endLanding_entry s x)

theorem matches_popBuffer (h : Matches due s) : Matches due s.popBuffer := h.tables (fun _ => rfl) fun _ => rfl

theorem settled_finalAnswer (h : Matches Settled s) (live : (s.entry g).state = .live) (res : Result) :
    Matches Settled (s.finalAnswer g res) := by
  have lost : Matches _ (s.freeEntry g) := h.lose (e := (s.entry g).freed) rfl rfl (.inr live)
  have self : (s.freeEntry g).entry g = (s.entry g).freed := entry_setEntry_self s g _
  exact settled_report lost (by rw [self]; exact not_awaited_freed _) (by rw [self]; rfl) res

/-- A request goes to QUARANTINED and its owner has the result (R44, R54). -/
theorem settled_quarantine_report (h : Matches Settled s) (live : (s.entry g).state = .live) (res : Result) :
    Matches Settled ((s.quarantineEntry g).report (s.entry g).owner g res) := by
  have self : (s.quarantineEntry g).entry g = (s.entry g).quarantined s.responseTime := by
    rw [quarantineEntry_entry, if_pos rfl]
  have lost : Matches _ (s.quarantineEntry g) := (matches_endLanding h g).lose (e := (s.entry g).quarantined s.responseTime)
    (by rw [endLanding_entry]; rfl) (by rw [endLanding_entry]; rfl) (by rw [endLanding_entry]; exact .inr live)
  exact settled_report lost (by rw [self]; exact not_awaited_quarantined _ _) (by rw [self]; rfl) res

/-- An entry that awaits nothing is freed or quarantined. -/
theorem matches_freeEntry (h : Matches due s) (gone : ¬ Awaited (s.entry g)) : Matches due (s.freeEntry g) :=
  h.setEntry rfl rfl (iff_of_false (not_awaited_freed _) gone)

theorem matches_quarantineEntry (h : Matches due s) (gone : ¬ Awaited (s.entry g)) : Matches due (s.quarantineEntry g) :=
  (matches_endLanding h g).setEntry (by rw [endLanding_entry]; rfl) (by rw [endLanding_entry]; rfl)
    (by rw [endLanding_entry]; exact iff_of_false (not_awaited_quarantined _ _) gone)

/-- What a peer's purge or the host's release leaves of a channel. -/
theorem shape_of_payload {x y : Channel} (same : y = x ∨ y = { x with payload := none }) (shape : ChannelShape x) :
    ChannelShape y ∧ outstandingTags y.records = outstandingTags x.records := by
  rcases same with rfl | rfl
  · exact ⟨shape, rfl⟩
  · exact ⟨shape, rfl⟩

theorem settled_releaseHost (h : Matches Settled s) : Matches Settled (s.releaseOwner .host) := by
  refine h.of_same (fun c shape => ?_) fun c x => ?_
  · rw [releaseOwner_channel_other s (d := c) (fun same => by cases same)]
    exact ⟨shape, rfl⟩
  rw [releaseOwner_entry]
  split
  · next mine =>
    have apart : ∀ e : Entry, e.owner = .host → ¬ RequestOf e c := fun e own request => by cases own.symm.trans request.1
    exact iff_of_false (fun k => apart _ ((releasedEntry_owner _).trans mine) k.1) fun k => apart _ mine k.1
  · exact Iff.rfl

/-! ## A peer's purge (R58, R60) -/

theorem mem_lostTags_iff {p : StationNo} : g ∈ lostTags s p ↔ (s.entry g).peer = p ∧ Awaited (s.entry g) := by
  simp [lostTags, mem_allTags, Awaited]

theorem purgedEntry_same (us : Micros) (e : Entry) : (purgedEntry us e).owner = e.owner ∧ (purgedEntry us e).kind = e.kind ∧
    ((purgedEntry us e).state = .free ∨ (purgedEntry us e).state = .quarantined) := by
  unfold purgedEntry
  cases state : e.state with
  | queued => exact ⟨rfl, rfl, .inl rfl⟩
  | live | abandoned => exact ⟨rfl, rfl, .inr rfl⟩
  | free => exact ⟨rfl, rfl, .inl state⟩
  | quarantined => exact ⟨rfl, rfl, .inr state⟩

theorem not_awaited_of_settled {e : Entry} (settled : e.state = .free ∨ e.state = .quarantined) : ¬ Awaited e := by
  rcases settled with state | state <;> rw [Awaited, state] <;> nofun

theorem matches_purgedTracker (h : Matches Settled s) (p : StationNo) : Matches (· ∈ lostTags s p) (purgedTracker s p) := by
  refine h.of_same (fun c => shape_of_payload (purgedTracker_channel s p c)) fun c x => ?_
  rw [purgedTracker_entry, mem_lostTags_iff]
  split
  · next peer =>
    obtain ⟨owner, kind, settled⟩ := purgedEntry_same s.responseTime (s.entry x)
    rw [RequestOf, RequestOf, owner, kind, or_iff_right (not_awaited_of_settled settled), and_iff_right peer]
    exact and_congr_right fun _ => (or_iff_left id).symm
  · next other => exact and_congr_right fun _ => or_congr_right (iff_of_false (fun k => other k.1) id)

/-- The reports of the lost requests, one after the other. -/
theorem settled_reports {v u : State} {owner : Tag → Owner} {l : List Tag} (work : Working v u)
    (lost : ∀ x ∈ l, ((v.entry x).state = .free ∨ (v.entry x).state = .quarantined) ∧ (v.entry x).owner = owner x)
    (h : Matches due u) (only : ∀ x, due x → x ∈ l) :
    Matches Settled (l.foldl (fun u x => u.report (owner x) x .peerLost) u) := by
  induction l generalizing u due with
  | nil => exact h.settled fun x there => List.not_mem_nil (only x there)
  | cons x l ih =>
    obtain ⟨settled, own⟩ := lost x List.mem_cons_self
    have same := work.settled_entry settled
    obtain ⟨later, less, matched⟩ := reported_report h (g := x) (o := owner x)
      (by rw [same]; exact not_awaited_of_settled settled) (by rw [same]; exact own) .peerLost
    refine ih (work.trans (report_working u _ x _)) (fun y there => lost y (List.mem_cons_of_mem x there)) matched fun y there => ?_
    obtain ⟨before, other⟩ := less y there
    exact (List.mem_cons.mp (only y before)).resolve_left other

theorem settled_purgeTracker (h : Matches Settled s) (p : StationNo) : Matches Settled (s.purgeTracker p) := by
  rw [purgeTracker_eq]
  refine settled_reports (v := purgedTracker s p) .refl (fun x there => ?_) (matches_purgedTracker h p) fun _ => id
  obtain ⟨peer, -⟩ := mem_lostTags_iff.mp there
  rw [purgedTracker_entry, if_pos peer]
  obtain ⟨owner, -, settled⟩ := purgedEntry_same s.responseTime (s.entry x)
  exact ⟨settled, owner⟩

theorem settled_peerLost (h : Matches Settled s) (p : StationNo) : Matches Settled (s.peerLost p) := by
  have beside := (purgeInbound_beside (s.purgeTracker p) p).1
  exact (settled_purgeTracker h p).tables (fun c => channel_congr beside.channels c) fun x => entry_congr beside.tracker x

theorem settled_becomeAbsent (h : Matches Settled s) (p : StationNo) : Matches Settled (s.becomeAbsent p) := by
  unfold State.becomeAbsent
  split
  · exact settled_peerLost (h.tables (fun c => setRoster_channel s p _ c) fun x => setRoster_entry s p _ x) p
  · exact h

end

end Sys2Proof.Proofs
end


section
/-!
The match of records and requests through settling: starts, cuts, allocations and dispatches (R7, R11 to R16, R25, R36 to R39,
R76, R112, R162).
-/

set_option Elab.async false

namespace Sys2Proof.Proofs

open Sys2Proof Sys2Proof.Machine Sys2Proof.Safety Sys2Proof.Laws

section
variable {s : State} {due : Tag → Prop} {c : ChannelNo} {g : Tag}

/-! ## Starts and cuts -/

theorem matches_startIfDue (h : Matches due s) (c : ChannelNo) : Matches due (s.startIfDue c) := by
  unfold State.startIfDue
  split
  · next due =>
    have armed : (s.channel c).state = .armed := by
      simp [State.startDue] at due
      exact due.1.1.1.1
    refine h.setChannel (fun shape => ?_) rfl
    obtain ⟨records, notice, front, size⟩ := (shape_armed armed).mp shape
    refine (shape_working (ch := (s.channel c).started) (.inl rfl)).mpr ⟨notice, size, ?_, ?_⟩
    · exact (Nat.le_of_eq front).trans (Nat.zero_le _)
    · rw [show (s.channel c).started.records = [] from records]
      rfl
  · exact h

theorem matches_foldl {α : Type} (f : State → α → State) (hf : ∀ s a, Matches due s → Matches due (f s a)) (l : List α)
    (h : Matches due s) : Matches due (l.foldl f s) := by
  induction l generalizing s with
  | nil => exact h
  | cons a l ih => exact ih (hf s a h)

theorem matches_startChannels (h : Matches due s) : Matches due s.startChannels :=
  matches_foldl _ (fun _ c hs => matches_startIfDue hs c) _ h

theorem matches_engineTake (h : Matches due s) : Matches due s.engineTake :=
  h.tables (engineTake_channel s) fun g => entry_congr (engineTake_others s).2.2.2 g

theorem matches_settleOnce (h : Matches due s) : Matches due s.settleOnce := matches_engineTake (matches_startChannels h)

/-- A cut tiles the next bytes of the transfer (R11). -/
theorem shape_cut {ch : Channel} (shape : ChannelShape ch) (running : ch.state = .running) (room : ch.canCut = true) :
    ChannelShape ch.cut := by
  obtain ⟨notice, size, cut, tiles⟩ := (shape_working (.inl running)).mp shape
  obtain ⟨left, -, -⟩ := (canCut_iff ch).mp room
  refine (shape_working (ch := ch.cut) (.inl running)).mpr ⟨notice, size, ?_, ?_⟩
  · show ch.cutOffset + min ch.desc.segSize.toNat (ch.desc.length.toNat - ch.cutOffset) ≤ ch.desc.length.toNat
    omega
  · refine tiles_append tiles rfl ?_ rfl
    show 0 < min ch.desc.segSize.toNat (ch.desc.length.toNat - ch.cutOffset)
    omega

theorem outstandingTags_cut (ch : Channel) : outstandingTags ch.cut.records = outstandingTags ch.records := by
  rw [Channel.cut, outstandingTags_append, outstandingTags_cons_other (fun _ => SegState.noConfusion)]
  exact List.append_nil _

theorem matches_askChannel (h : Matches due s) (c : ChannelNo) : Matches due (s.askChannel c) := by
  unfold State.askChannel
  split
  · by_cases cuts : ((s.channel c).state = .running && (s.channel c).canCut) = true
    · obtain ⟨running, room⟩ := Bool.and_eq_true_iff.mp cuts
      have eq : (s.modifyChannel c fun ch => { (if ch.state = .running && ch.canCut then ch.cut else ch) with waiting := true }) =
          s.setChannel c { (s.channel c).cut with waiting := true } := by
        rw [State.modifyChannel, if_pos cuts]
      rw [eq]
      exact h.setChannel (fun shape => shape_cut shape (of_decide_eq_true running) room) (outstandingTags_cut _)
    · have eq : (s.modifyChannel c fun ch => { (if ch.state = .running && ch.canCut then ch.cut else ch) with waiting := true }) =
          s.setChannel c { s.channel c with waiting := true } := by
        rw [State.modifyChannel, if_neg cuts]
      rw [eq]
      exact h.setChannel (fun shape => shape) rfl
  · exact h.setChannel (fun shape => shape) rfl

theorem settled_dropOwner (h : Matches Settled s) (o : Owner) : Matches Settled (s.dropOwner o) := by
  cases o with
  | channel c => exact settled_endChannel h c _ none
  | host => exact h.tables (fun _ => rfl) fun _ => rfl

theorem settled_askOwners (h : Matches Settled s) : Matches Settled s.askOwners :=
  matches_foldl _ (fun _ o hs => settled_dropOwner hs o) _
    (matches_foldl (s := s) State.askChannel (fun _ c hs => matches_askChannel hs c) allChannels h)

/-! ## Allocation -/

/-- The tag of a FREE entry is in no channel's records. -/
theorem absent_of_free (h : Matches Settled s) (free : (s.entry g).state = .free) (c : ChannelNo) :
    g ∉ outstandingTags (s.channel c).records := fun there =>
  (((h c).2.2 g).mp there).2.elim (not_awaited_of_settled (.inl free)) id

/-- A segment's request: its record and its entry, together (R15, R36). -/
theorem settled_issue {x : Channel} {e : Entry} {u : State} (h : Matches Settled s) (free : (s.entry g).state = .free)
    (shape : ChannelShape (s.channel c) → ChannelShape x)
    (tags : (outstandingTags x.records).Perm (g :: outstandingTags (s.channel c).records)) (request : RequestOf e c)
    (queued : e.state = .queued) (channels : ∀ d, u.channel d = (s.setChannel c x).channel d)
    (entries : ∀ y, u.entry y = (s.setEntry g e).entry y) : Matches Settled u := by
  have absent := absent_of_free h free
  intro d
  obtain ⟨before, once, there⟩ := h d
  rw [channels]
  by_cases same : d = c
  · subst same
    rw [channel_setChannel_self]
    refine ⟨shape before, tags.nodup_iff.mpr (List.nodup_cons.mpr ⟨absent d, once⟩), fun y => ?_⟩
    rw [tags.mem_iff, List.mem_cons, entries, entry_setEntry]
    split
    · next at_ => exact iff_of_true (.inl at_) ⟨request, .inl (.inl queued)⟩
    · next other => rw [or_iff_right other, there]
  · rw [channel_setChannel_other s same]
    refine ⟨before, once, fun y => ?_⟩
    rw [entries, entry_setEntry]
    split
    · next at_ =>
      subst at_
      exact iff_of_false (absent d) fun k => same (Owner.channel.inj (k.1.1.symm.trans request.1))
    · exact there y

/-- A notice's request changes no record (R25, R98). -/
theorem settled_noticeEntry {e : Entry} (h : Matches Settled s) (free : (s.entry g).state = .free) (kind : e.kind = .notice) :
    Matches Settled (s.queueEntry g e) := by
  refine h.of_same (fun _ shape => ⟨shape, rfl⟩) fun c x => ?_
  rw [entry_queueEntry]
  split
  · next same =>
    subst same
    exact iff_of_false (fun k => k.1.2 kind) fun k => k.2.elim (not_awaited_of_settled (.inl free)) id
  · exact Iff.rfl

theorem segmentEntry_request (d : Descriptor) (c : ChannelNo) (r : SegRecord) : RequestOf (d.segmentEntry c r) c := by
  unfold Descriptor.segmentEntry
  cases d.direction with
  | pull => exact ⟨rfl, EntryKind.noConfusion⟩
  | push => exact ⟨rfl, EntryKind.noConfusion⟩

/-- The channel whose first PENDING record has the tag (R15). -/
def issued (ch : Channel) (g : Tag) : Channel := { ch with waiting := false, payload := none, records := issueFirst g ch.records }

theorem settled_issueSegment {r : SegRecord} (h : Matches Settled s) (free : (s.entry g).state = .free)
    (running : (s.channel c).state = .running) (pending : (s.channel c).records.any SegRecord.isPending = true) :
    Matches Settled (s.issueSegment c g r) := by
  have shape : ChannelShape (s.channel c) → ChannelShape (issued (s.channel c) g) := fun shape => by
    obtain ⟨notice, size, cut, tiles⟩ := (shape_working (.inl running)).mp shape
    exact (shape_working (ch := issued (s.channel c) g) (.inl running)).mpr ⟨notice, size, cut, tiles_issueFirst g tiles⟩
  have request := segmentEntry_request (s.channel c).desc c r
  have tags : (outstandingTags (issued (s.channel c) g).records).Perm (g :: outstandingTags (s.channel c).records) :=
    outstandingTags_issueFirst g pending
  unfold State.issueSegment
  dsimp only
  cases (s.channel c).desc.direction with
  | pull =>
    exact settled_issue (e := { (s.channel c).desc.segmentEntry c r with state := .queued }) h free shape tags request rfl
      (fun _ => rfl) fun _ => rfl
  | push =>
    exact settled_issue (e := { (s.channel c).desc.segmentEntry c r with state := .queued }) h free shape tags request rfl
      (fun _ => rfl) fun _ => rfl

theorem settled_offerChannel (h : Matches Settled s) (free : (s.entry g).state = .free) (wants : s.wantsTag c = true) :
    Matches Settled (s.offerChannel c g) := by
  rcases state_of_wantsTag wants with running | notifying
  · cases found : (s.channel c).records.find? SegRecord.isPending with
    | none =>
      have same : s.offerChannel c g = s := by
        unfold State.offerChannel
        dsimp only
        rw [running, found]
      rw [same]
      exact h
    | some r =>
      have pending : (s.channel c).records.any SegRecord.isPending = true :=
        List.any_eq_true.mpr ⟨r, List.mem_of_find?_eq_some found, List.find?_some found⟩
      rw [offerChannel_of_running running found]
      split
      · exact settled_issueSegment h free running pending
      · exact settled_dropOwner h (.channel c)
  · obtain ⟨n, notice, -⟩ := wantsTag_of_notifying notifying wants
    rw [offerChannel_of_notifying notifying notice]
    split
    · refine settled_noticeEntry ?_ free rfl
      exact matches_setNotice (h.setChannel (x := { s.channel c with waiting := false }) (fun shape => shape) rfl)
        (by rw [channel_setChannel_self]; exact notifying) { n with phase := .tagged g } |>.tables (fun d => by
          by_cases same : d = c
          · subst same
            simp only [State.setNotice, channel_modifyChannel_self, channel_setChannel_self]
          · simp only [State.setNotice, State.modifyChannel, channel_setChannel_other _ same]) fun _ => rfl
    · exact settled_dropOwner h (.channel c)

theorem settled_offerSlot (h : Matches Settled s) (free : (s.entry g).state = .free) : Matches Settled (s.offerSlot g) := by
  unfold State.offerSlot
  dsimp only
  split
  · exact settled_noticeEntry (s := s.setSlot _) (h.tables (fun _ => rfl) fun _ => rfl) free rfl
  · exact settled_dropOwner h .host

theorem settled_grantTag (h : Matches Settled s) (o : Owner) : Matches Settled (s.grantTag o) := by
  unfold State.grantTag
  split
  · exact h
  · next g lowest =>
    have free := free_of_lowestFree s lowest
    split
    · next waits =>
      cases o with
      | channel c => exact settled_offerChannel h free (Bool.and_eq_true_iff.mp waits).2
      | host => exact settled_offerSlot h free
    · exact h

theorem settled_allocateTags (h : Matches Settled s) : Matches Settled s.allocateTags :=
  matches_foldl _ (fun _ o hs => settled_grantTag hs o) _ h

/-! ## Dispatch -/

theorem placeOrDrop_tables (s : State) (r : Response) : (∀ c, (s.placeOrDrop r).channel c = s.channel c) ∧
    ∀ x, (s.placeOrDrop r).entry x = s.entry x := by
  unfold State.placeOrDrop
  split <;> exact ⟨fun _ => rfl, fun _ => rfl⟩

theorem matches_placeOrDrop (h : Matches due s) (r : Response) : Matches due (s.placeOrDrop r) :=
  h.tables (placeOrDrop_tables s r).1 (placeOrDrop_tables s r).2

theorem matches_placeResponse (h : Matches due s) (r : Response) : Matches due (s.placeResponse r) :=
  h.tables (fun _ => rfl) fun _ => rfl

theorem matches_requestArrives (h : Matches due s) (src : StationNo) (x : Tag) (w : Bool) (a : BitVec 24) (l : BitVec 16)
    (p : List Byte) : Matches due (s.requestArrives src x w a l p) := by
  unfold State.requestArrives
  split
  · exact matches_placeOrDrop h _
  · exact h.tables (fun _ => rfl) fun _ => rfl

theorem matches_noticeArrives (h : Matches due s) (src : StationNo) (x : Tag) (code : BitVec 16) :
    Matches due (s.noticeArrives src x code) := by
  unfold State.noticeArrives
  split
  · exact matches_placeOrDrop h _
  · split
    · exact h.tables (fun _ => rfl) fun _ => rfl
    · split
      · next c _ =>
        exact matches_placeResponse (h.setChannel (c := c) (x := { s.channel c with latch := true }) (fun shape => shape) rfl) _
      · split
        · exact matches_placeResponse (s := s.appendNotice src code) (h.tables (fun _ => rfl) fun _ => rfl) _
        · exact matches_placeResponse h _

theorem settled_answerArrives (h : Matches Settled s) (src : StationNo) (x : Tag) (b : FrameBody) (res : Result) :
    Matches Settled (s.answerArrives src x b res) := by
  unfold State.answerArrives
  dsimp only
  split
  · next answers =>
    split
    · next live => exact settled_finalAnswer h live res
    · next notLive =>
      exact matches_freeEntry h (not_awaited_of_abandoned ((open_of_answers answers).resolve_left notLive))
  · exact h.tables (fun _ => rfl) fun _ => rfl

theorem settled_readDataArrives (h : Matches Settled s) (src : StationNo) (x : Tag) (last : Bool) (place : BitVec 6)
    (p : List Byte) : Matches Settled (s.readDataArrives src x last place p) := by
  have popped := matches_popBuffer h
  unfold State.readDataArrives
  dsimp only
  split
  · next answers =>
    split
    · next live =>
      split
      · exact settled_quarantine_report popped live .dataError
      · have marked : Matches Settled (s.setEntry x { s.entry x with landingMark := true }) := h.setEntry rfl rfl Iff.rfl
        exact marked.tables (fun _ => rfl) fun _ => rfl
    · next notLive =>
      split
      · exact matches_freeEntry popped (not_awaited_of_abandoned ((open_of_answers answers).resolve_left notLive))
      · exact popped
  · exact popped.tables (fun _ => rfl) fun _ => rfl

theorem settled_dispatchHead (h : Matches Settled s) : Matches Settled s.dispatchHead := by
  have popped := matches_popBuffer h
  unfold State.dispatchHead
  split
  · exact h
  · split
    · exact matches_requestArrives popped _ _ _ _ _ _
    · exact matches_requestArrives popped _ _ _ _ _ _
    · exact matches_noticeArrives popped _ _ _
    · exact settled_readDataArrives h _ _ _ _ _
    · exact settled_answerArrives popped _ _ _ _
    · exact settled_answerArrives popped _ _ _ _
    all_goals exact popped

/-! ## Settling -/

theorem matches_checkDrain (h : Matches due s) : Matches due s.checkDrain :=
  h.tables (checkDrain_channel s) (checkDrain_entry s)

theorem settled_settleTags (h : Matches Settled s) : Matches Settled s.settleTags := matches_checkDrain (settled_allocateTags h)

theorem settled_settleN (n : Nat) (h : Matches Settled s) : Matches Settled (State.settleN n s) := by
  induction n generalizing s with
  | zero => exact settled_settleTags (settled_askOwners (matches_settleOnce h))
  | succ n ih =>
    have once := matches_settleOnce h
    have asked := settled_askOwners once
    rw [State.settleN]
    dsimp only
    split
    · exact ih (settled_dispatchHead once)
    · split
      · exact ih (settled_dispatchHead asked)
      · exact settled_settleTags asked

theorem settled_settleFrom (h : Matches Settled s) (old : List (ChannelNo × BurstRequest)) : Matches Settled (s.settleFrom old) := by
  have rounds := settled_settleN (2 * Config.receiveBufferSize) h
  unfold State.settleFrom
  generalize State.settleN (2 * Config.receiveBufferSize) s = u at rounds
  exact rounds.tables (fun _ => rfl) fun _ => rfl

theorem settled_settle (h : Matches Settled s) : Matches Settled s.settle := settled_settleFrom h _

end

end Sys2Proof.Proofs
end


section
/-!
Every step keeps a channel's records and requests matched, and with them the depth (R7, R14, R23).
-/

set_option Elab.async false

namespace Sys2Proof.Proofs

open Sys2Proof Sys2Proof.Machine Sys2Proof.Safety Sys2Proof.Laws

section
variable {s t : State} {due : Tag → Prop} {c : ChannelNo} {g : Tag}

/-! ## The station -/

theorem Matches.blocks (h : Matches due s) (channels : t.channels = s.channels) (tracker : t.tracker = s.tracker) :
    Matches due t := h.tables (fun c => channel_congr channels c) fun x => entry_congr tracker x

theorem matches_refuse (h : Matches due s) (code : BitVec 8) (op : BitVec 3) (reason : RefusalReason) :
    Matches due (s.refuse code op reason) := h.blocks rfl rfl

theorem matches_lockedWrite (h : Matches due s) (offset : BitVec 10) : Matches due (s.lockedWrite offset) := h.blocks rfl rfl

theorem shape_stationEnds {ch : Channel} (shape : ChannelShape ch) (code : TermCode) :
    ChannelShape (ch.stationEnds code) ∧ (ch.stationEnds code).records = [] := by
  have ends : ch.stationEnds code = ch.ended code none → ChannelShape (ch.stationEnds code) ∧ (ch.stationEnds code).records = [] :=
    fun eq => by rw [eq]; exact ⟨shape_ended _ _ _, rfl⟩
  have stays : ch.records = [] → ch.stationEnds code = { ch with waiting := false } →
      ChannelShape (ch.stationEnds code) ∧ (ch.stationEnds code).records = [] := fun records eq => by
    rw [eq]
    exact ⟨shape, records⟩
  cases state : ch.state with
  | off => exact stays ((shape_off state).mp shape).1 (by rw [Channel.stationEnds, state])
  | armed => exact stays ((shape_armed state).mp shape).1 (by rw [Channel.stationEnds, state])
  | running | paused | notifying => exact ends (by rw [Channel.stationEnds, state])

theorem settled_quiesce (h : Matches Settled s) (code : TermCode) : Matches Settled (s.quiesce code) := by
  obtain ⟨l, r, v, eq, -⟩ := quiesce_blocks s code
  generalize s.quiesce code = u at eq ⊢
  have entries : ∀ x, u.entry x = (s.entry x).freed := fun x => by
    rw [eq]
    exact mapTable_get _ _ x
  have channels : ∀ c, u.channel c = (s.channel c).stationEnds code := fun c => by
    rw [eq]
    exact mapTable_get _ _ c
  intro c
  obtain ⟨shape, records⟩ := shape_stationEnds (h c).1 code
  rw [channels, records]
  refine ⟨shape, List.nodup_nil, fun x => iff_of_false List.not_mem_nil fun k => ?_⟩
  rw [entries] at k
  exact k.2.elim (not_awaited_freed _) id

theorem settled_enterOffline (h : Matches Settled s) : Matches Settled s.enterOffline := by
  have quiet := settled_quiesce h .left
  unfold State.enterOffline
  generalize s.quiesce .left = u at quiet
  exact quiet.blocks rfl rfl

theorem settled_enterConflict (h : Matches Settled s) (cause : ConflictCause) : Matches Settled (s.enterConflict cause) := by
  have quiet := settled_quiesce h .conflict
  unfold State.enterConflict
  generalize s.quiesce .conflict = u at quiet
  exact quiet.blocks rfl rfl

theorem settled_of_fresh (entries : ∀ x, s.entry x = {}) (channels : ∀ c, (s.channel c).state = .off ∧
    (s.channel c).records = [] ∧ (s.channel c).notice = none) : Matches Settled s := by
  intro c
  obtain ⟨off, records, notice⟩ := channels c
  refine ⟨(shape_off off).mpr ⟨records, notice⟩, by rw [records]; exact List.nodup_nil, fun x => ?_⟩
  rw [records, entries]
  exact iff_of_false List.not_mem_nil fun k => k.2.elim (not_awaited_of_settled (.inl rfl)) id

theorem settled_stationReset (s : State) : Matches Settled s.stationReset :=
  settled_of_fresh (stationReset_entry s) fun c => by rw [stationReset_channel]; exact ⟨rfl, rfl, rfl⟩

theorem settled_hardwareReset (s : State) : Matches Settled s.hardwareReset :=
  settled_of_fresh (hardwareReset_entry s) fun c => by rw [hardwareReset_channel]; exact ⟨rfl, rfl, rfl⟩

theorem matches_mapChannels {f : Channel → Channel} (h : Matches due s)
    (keeps : ∀ ch, ChannelShape ch → ChannelShape (f ch) ∧ outstandingTags (f ch).records = outstandingTags ch.records) :
    Matches due (s.mapChannels f) := by
  refine h.of_same (fun c shape => ?_) fun _ _ => Iff.rfl
  rw [show (s.mapChannels f).channel c = f (s.channel c) from mapTable_get _ _ c]
  exact keeps _ shape

/-! ## Commands -/

theorem settled_join (h : Matches Settled s) (op : BitVec 3) : Matches Settled (State.join op s) := by
  unfold State.join
  split
  · exact matches_refuse h _ _ _
  · split
    · exact h.blocks rfl rfl
    · exact matches_refuse h _ _ _

theorem settled_leave (h : Matches Settled s) (op : BitVec 3) : Matches Settled (State.leave op s) := by
  unfold State.leave
  split
  · obtain ⟨l, r, eq⟩ := startLeaving_blocks s
    rw [eq]
    exact settled_settle (h.blocks rfl rfl)
  · exact settled_enterOffline h
  all_goals exact matches_refuse h _ _ _

theorem settled_holdUp (h : Matches Settled s) (op : BitVec 3) : Matches Settled (State.holdUp op s) := by
  unfold State.holdUp
  split
  · exact matches_mapChannels (s := { s with holdDepth := s.holdDepth + 1 }) (h.blocks rfl rfl) fun ch shape => ⟨shape, rfl⟩
  · exact matches_refuse h _ _ _

theorem settled_holdDown (h : Matches Settled s) (op : BitVec 3) : Matches Settled (State.holdDown op s) := by
  unfold State.holdDown
  split
  · exact matches_refuse h _ _ _
  · split
    · exact settled_settle (h.blocks rfl rfl)
    · exact h.blocks rfl rfl

theorem settled_sendNotice (h : Matches Settled s) (op : BitVec 3) : Matches Settled (State.sendNotice op s) := by
  unfold State.sendNotice
  dsimp only
  split
  · exact matches_refuse h _ _ _
  · split
    · exact matches_refuse h _ _ _
    · exact settled_settle (h.blocks rfl rfl)

theorem settled_popNotice (h : Matches Settled s) (op : BitVec 3) : Matches Settled (State.popNotice op s) := by
  unfold State.popNotice
  split
  · exact matches_refuse h _ _ _
  · exact h.blocks rfl rfl

/-- A valid descriptor has a segment size (R2). -/
theorem segSize_of_valid {d : Descriptor} {own : StationNo} (valid : d.valid own = true) : 0 < d.segSize.toNat := by
  simp only [Descriptor.valid, Bool.and_eq_true, decide_eq_true_eq] at valid
  omega

theorem settled_chEnable (h : Matches Settled s) (op : BitVec 3) (c : ChannelNo) : Matches Settled (State.chEnable op c s) := by
  unfold State.chEnable
  dsimp only
  split
  · exact matches_refuse h _ _ _
  · next off =>
    have state : (s.channel c).state = .off := not_not.mp off
    split
    · next valid =>
      have size := segSize_of_valid valid
      refine h.setChannel (fun _ => (shape_armed (ch := (s.channel c).enabled) rfl).mpr ⟨rfl, rfl, rfl, size⟩) ?_
      rw [((shape_off state).mp (h c).1).1]
      rfl
    · exact matches_refuse (h.setChannel (x := { s.channel c with code := .badDescriptor }) (fun shape => shape) rfl) _ _ _

theorem shape_triggered (ch : Channel) (shape : ChannelShape ch) :
    ChannelShape (triggered ch) ∧ outstandingTags (triggered ch).records = outstandingTags ch.records := by
  unfold triggered
  (repeat' split) <;> exact ⟨shape, rfl⟩

theorem matches_trigger (h : Matches due s) (c : ChannelNo) : Matches due (s.trigger c) := by
  rw [trigger_eq]
  exact (h.setChannel (x := triggered (s.channel c)) (fun shape => (shape_triggered _ shape).1)
    (shape_triggered _ (h c).1).2).blocks rfl rfl

theorem settled_startAndSettle (h : Matches Settled s) (c : ChannelNo) : Matches Settled (s.startAndSettle c) := by
  unfold State.startAndSettle
  split
  · exact settled_settle (matches_startIfDue h c)
  · exact h

theorem settled_chStart (h : Matches Settled s) (op : BitVec 3) (c : ChannelNo) : Matches Settled (State.chStart op c s) := by
  unfold State.chStart
  split
  · exact matches_refuse h _ _ _
  · exact settled_startAndSettle (matches_trigger h c) c

/-- RUNNING and PAUSED have one shape, so a pause and its end keep it (R8, R9). -/
theorem shape_paused {ch : Channel} (shape : ChannelShape ch) : ChannelShape ch.paused := by
  by_cases running : ch.state = .running
  · have state : ch.paused.state = .paused := if_pos running
    exact (shape_working (.inr state)).mpr ((shape_working (.inl running)).mp shape)
  · exact shape_congr (if_neg running) rfl rfl rfl rfl rfl shape

theorem shape_resumed {ch : Channel} (shape : ChannelShape ch) : ChannelShape ch.resumed := by
  by_cases paused : ch.state = .paused
  · have state : ch.resumed.state = .running := if_pos paused
    exact (shape_working (.inl state)).mpr ((shape_working (.inr paused)).mp shape)
  · exact shape_congr (if_neg paused) rfl rfl rfl rfl rfl shape

theorem settled_chPause (h : Matches Settled s) (op : BitVec 3) (c : ChannelNo) : Matches Settled (State.chPause op c s) := by
  unfold State.chPause
  split
  · exact matches_refuse h _ _ _
  · exact h.setChannel shape_paused rfl

theorem settled_chResume (h : Matches Settled s) (op : BitVec 3) (c : ChannelNo) : Matches Settled (State.chResume op c s) := by
  have resumed : Matches Settled (s.modifyChannel c Channel.resumed) := h.setChannel shape_resumed rfl
  unfold State.chResume
  split
  · exact matches_refuse h _ _ _
  · exact h
  all_goals exact settled_settle resumed

theorem settled_chAbort (h : Matches Settled s) (op : BitVec 3) (c : ChannelNo) : Matches Settled (State.chAbort op c s) := by
  unfold State.chAbort
  split
  · exact matches_refuse h _ _ _
  · exact settled_settle (settled_endChannel h c .aborted none)

theorem settled_chDisable (h : Matches Settled s) (op : BitVec 3) (c : ChannelNo) : Matches Settled (State.chDisable op c s) := by
  unfold State.chDisable
  split
  · next armed =>
    refine h.setChannel (fun shape => ?_) rfl
    obtain ⟨records, notice, -⟩ := (shape_armed armed).mp shape
    exact (shape_off (ch := (s.channel c).disabled) rfl).mpr ⟨records, notice⟩
  · exact matches_refuse h _ _ _

theorem settled_channelCommand (h : Matches Settled s) (code : BitVec 8) (op : BitVec 3) {f : ChannelNo → State → State}
    (taken : ∀ c, Matches Settled (f c s)) : Matches Settled (s.channelCommand code op f) := by
  unfold State.channelCommand
  split
  · exact taken _
  · exact matches_refuse h _ _ _

/-! ## Register writes -/

theorem settled_writeNumber (h : Matches Settled s) (v : Word) : Matches Settled (State.writeNumber v s) := by
  unfold State.writeNumber
  split
  · exact settled_becomeAbsent (s := { s with member := { s.member with number := v.extractLsb' 0 5 } }) (h.blocks rfl rfl) _
  · exact matches_lockedWrite h _

theorem settled_writeTiming (h : Matches Settled s) (v : Word) : Matches Settled (State.writeTiming v s) := by
  unfold State.writeTiming
  split
  · exact h.blocks rfl rfl
  · exact matches_lockedWrite h _

theorem settled_writeWindow (h : Matches Settled s) (n : Fin 8) (w : Fin 4) (v : Word) :
    Matches Settled (State.writeWindow n w v s) := by
  unfold State.writeWindow
  split
  · exact h.blocks rfl rfl
  · exact matches_lockedWrite h _

theorem settled_writeDescriptor (h : Matches Settled s) (c : ChannelNo) (w : Fin 8) (v : Word) :
    Matches Settled (State.writeDescriptor c w v s) := by
  unfold State.writeDescriptor
  split
  · next off =>
    refine h.setChannel (x := { s.channel c with desc := (s.channel c).desc.writeWord w v }) (fun shape => ?_) rfl
    obtain ⟨records, notice⟩ := (shape_off off).mp shape
    exact (shape_off (by exact off)).mpr ⟨records, notice⟩
  · exact matches_lockedWrite h _

theorem settled_writeHnSend (h : Matches Settled s) (v : Word) : Matches Settled (State.writeHnSend v s) := by
  unfold State.writeHnSend
  split
  · exact matches_lockedWrite h _
  · exact h.blocks rfl rfl

theorem settled_triggerEdge (h : Matches Settled s) (line : Fin 2) : Matches Settled (State.triggerEdge line s) := by
  have edge : Matches Settled (State.edge line s) := matches_foldl _ (fun u c hu => by
    split
    · exact matches_trigger hu c
    · exact hu) _ h
  unfold State.triggerEdge
  dsimp only
  split
  · exact settled_settle edge
  · exact edge

/-! ## The steps inside the station -/

theorem settled_segmentIssue (h : Matches Settled s) (n : ChannelNo) : Matches Settled (State.segmentIssue n s) := by
  unfold State.segmentIssue
  split
  · exact settled_settleFrom (settled_allocateTags (matches_askChannel h n)) _
  · exact h

theorem settled_tagAllocation (h : Matches Settled s) : Matches Settled s.tagAllocation := by
  unfold State.tagAllocation
  split
  · exact settled_settleFrom (settled_allocateTags h) _
  · exact h

theorem settled_frameDispatch (h : Matches Settled s) : Matches Settled s.frameDispatch := by
  unfold State.frameDispatch
  split
  · exact settled_settle (settled_dispatchHead h)
  · exact h

theorem matches_engineAnswer (h : Matches due s) (a : Response) : Matches due (s.engineAnswer a) := by
  unfold State.engineAnswer
  split <;> exact h.blocks rfl rfl

theorem settled_engineAnswerPlaced (h : Matches Settled s) : Matches Settled s.engineAnswerPlaced := by
  unfold State.engineAnswerPlaced
  split
  · split
    · exact h
    · refine settled_settle ?_
      unfold State.placeHeldAnswer
      split
      · exact matches_engineAnswer h _
      · exact h
  · exact h

/-! ## The link -/

theorem settled_claimStart (h : Matches Settled s) : Matches Settled s.claimStart := by
  unfold State.claimStart
  split
  · split
    · exact h.blocks rfl rfl
    · exact h
  · exact h

theorem settled_claimLost (h : Matches Settled s) : Matches Settled s.claimLost := by
  unfold State.claimLost
  split
  · exact h.blocks rfl rfl
  · exact h

theorem matches_setSending (h : Matches due s) (f : FrameRef) (mark : Bool) : Matches due (s.setSending f mark) := by
  unfold State.setSending
  split
  · exact h.blocks rfl rfl
  · exact h.blocks rfl rfl
  · exact h.blocks rfl rfl
  · split
    · exact h.setEntry rfl rfl Iff.rfl
    · exact h

theorem settled_claimWon (h : Matches Settled s) : Matches Settled s.claimWon := by
  unfold State.claimWon
  split
  · exact (matches_setSending h _ true).blocks rfl rfl
  · exact h

theorem matches_entrySent (h : Matches due s) (x : Tag) : Matches due (s.entrySent x) := by
  unfold State.entrySent
  dsimp only
  split
  · next queued =>
    have sent : ∀ u : State, Matches due u → (∀ y, u.entry y = s.entry y) → ∀ us, Matches due ((u.setEntry x
        { s.entry x with state := .live, sendingMark := false, deadline := some us }).dequeueTag x) := fun u hu same us =>
      (hu.setEntry (by rw [same]) (by rw [same]) (by rw [same]; exact iff_of_true (.inr rfl) (.inl queued))).tables
        (fun _ => rfl) fun _ => rfl
    split
    · next c _ _ =>
      exact sent _ (h.setChannel (c := c) (x := { s.channel c with payload := none }) (fun shape => shape) rfl) (fun _ => rfl) _
    · exact sent _ h (fun _ => rfl) _
  · exact h

theorem settled_controlSent (h : Matches Settled s) : Matches Settled s.controlSent := by
  unfold State.controlSent
  split
  · next c rest _ =>
    have left : Matches Settled (s.setControl rest) := h.blocks rfl rfl
    dsimp only
    split
    · exact left.blocks rfl rfl
    · exact settled_enterOffline left
    · exact left
  · exact h

theorem matches_dataSent (h : Matches due s) : Matches due s.dataSent := by
  unfold State.dataSent
  dsimp only
  split
  · split <;> exact h.blocks rfl rfl
  · exact h.blocks rfl rfl

theorem settled_producerSent (h : Matches Settled s) (f : FrameRef) : Matches Settled (s.producerSent f) := by
  cases f with
  | entry x => exact matches_entrySent h x
  | response => exact h.blocks rfl rfl
  | dataSlot => exact matches_dataSent h
  | control => exact settled_controlSent h

theorem matches_afterSend (h : Matches due s) (f : FrameRef) : Matches due (s.afterSend f) := by
  obtain ⟨l, eq, -⟩ := afterSend_eq s f
  rw [eq]
  exact h.blocks rfl rfl

theorem matches_rxSkip (h : Matches due s) : Matches due s.rxSkip := by
  unfold State.rxSkip
  split
  · exact h.blocks rfl rfl
  · exact h

theorem matches_stopDriving (h : Matches due s) : Matches due s.stopDriving := h.blocks rfl rfl

theorem matches_withdrawControl (h : Matches due s) (p : ControlKind → Bool) : Matches due (s.withdrawControl p) := by
  obtain ⟨l, r, eq⟩ := withdrawControl_eq s p
  rw [eq]
  exact h.blocks rfl rfl

theorem settled_sendCleanEnd (h : Matches Settled s) : Matches Settled s.sendCleanEnd := by
  unfold State.sendCleanEnd
  split
  · next f _ =>
    have stopped := matches_rxSkip (matches_stopDriving (matches_afterSend h f))
    generalize ((s.afterSend f).stopDriving).rxSkip = u at stopped
    have restarted : Matches Settled { u with
        link := { u.link with garble := 0 }
        member := { u.member with heartbeat := u.member.heartbeat.restart } } := stopped.blocks rfl rfl
    exact settled_settle (settled_producerSent (matches_withdrawControl restarted _) f)
  · exact h

theorem matches_producerGarbled (h : Matches due s) (f : FrameRef) : Matches due (s.producerGarbled f) := by
  have cleared := matches_setSending h f false
  unfold State.producerGarbled
  dsimp only
  split
  · split
    · split
      · split
        · exact cleared.blocks rfl rfl
        · exact cleared
      · exact cleared
    · exact cleared
  · exact cleared

theorem settled_garbledEnd (h : Matches Settled s) (f : FrameRef) : Matches Settled (s.garbledEnd f) := by
  have garbled := matches_producerGarbled
    (s := { s with link := { s.link with garble := s.link.garble + 1 } }) (h.blocks rfl rfl) f
  unfold State.garbledEnd
  dsimp only
  split
  · exact settled_enterConflict garbled _
  · exact garbled

theorem settled_sendGarbled (h : Matches Settled s) : Matches Settled s.sendGarbled := by
  unfold State.sendGarbled
  split
  · exact settled_garbledEnd (matches_rxSkip (matches_stopDriving (matches_afterSend h _))) _
  · exact settled_garbledEnd (matches_stopDriving (matches_afterSend h _)) _
  · exact h

theorem settled_rosterHears (h : Matches Settled s) (src : StationNo) (body : FrameBody) :
    Matches Settled (s.rosterHears src body) := by
  have heard : ∀ e, Matches Settled (s.setRoster src e) := fun e => h.blocks (setRoster_channels s src e) (setRoster_tracker s src e)
  rcases rosterHears_cases s src body with ⟨e, eq⟩ | ⟨e, eq⟩ | eq <;> rw [eq]
  · exact heard e
  · exact settled_peerLost (heard e) src
  · exact h

theorem settled_validFrame (h : Matches Settled s) (f : Frame) : Matches Settled (s.validFrame f) := by
  unfold State.validFrame
  split
  · split
    · exact settled_enterConflict h _
    · exact settled_enterConflict h _
    · exact settled_enterConflict h _
    · exact h
    · exact h
  · obtain ⟨r, eq, -⟩ := offerFrame_eq (s.rosterHears f.src f.body) f
    rw [eq]
    exact (settled_rosterHears h _ _).blocks rfl rfl

theorem settled_frameJudged (h : Matches Settled s) (claim : BitVec 7) (bytes : List Byte) :
    Matches Settled (State.frameJudged claim bytes s) := by
  unfold State.frameJudged State.judge
  dsimp only
  split
  · have skipping : Matches Settled { s with rx := { s.rx with state := .skipping, inProgress := none } } := h.blocks rfl rfl
    split
    · exact skipping.blocks rfl rfl
    · exact settled_settle (settled_validFrame skipping _)
  · exact h

/-! ## The timers -/

theorem settled_deadlineExpiry (h : Matches Settled s) (x : Tag) : Matches Settled (State.deadlineExpiry x s) := by
  unfold State.deadlineExpiry
  dsimp only
  split
  · split
    · next live => exact settled_settle (settled_quarantine_report h live .timeout)
    · next abandoned => exact settled_settle (matches_quarantineEntry h (not_awaited_of_abandoned abandoned))
    all_goals exact h
  · exact h

theorem settled_quarantineExpiry (h : Matches Settled s) (x : Tag) : Matches Settled (State.quarantineExpiry x s) := by
  unfold State.quarantineExpiry
  split
  · next expired =>
    have state : (s.entry x).state = .quarantined := of_decide_eq_true (Bool.and_eq_true_iff.mp expired).1
    exact settled_settle (matches_freeEntry h (not_awaited_of_settled (.inr state)))
  · exact h

theorem recordPending_eq {ch : Channel} {n : Nat} {x : SegRecord} (found : ch.records[n]? = some x) :
    ∃ before after, ch.records = before ++ x :: after ∧
      (ch.recordPending n).records = before ++ { x with state := .pending } :: after := by
  obtain ⟨there, rfl⟩ := List.getElem?_eq_some_iff.mp found
  refine ⟨ch.records.take n, ch.records.drop (n + 1), by simp, ?_⟩
  exact List.modify_eq_take_cons_drop there

theorem tiles_of_map_eq {a b : Nat} {l k : List SegRecord}
    (same : l.map (fun r => (r.offset, r.length)) = k.map fun r => (r.offset, r.length)) : Tiles a b l ↔ Tiles a b k := by
  induction l generalizing a k with
  | nil =>
    rw [List.map_nil, eq_comm, List.map_eq_nil_iff] at same
    rw [same]
  | cons r l ih =>
    cases k with
    | nil => cases same
    | cons x k =>
      rw [List.map_cons, List.map_cons, List.cons.injEq, Prod.mk.injEq] at same
      obtain ⟨⟨offset, length⟩, rest⟩ := same
      rw [Tiles, Tiles, offset, length, ih rest]

theorem settled_segmentBackoffExpiry (h : Matches Settled s) (n : ChannelNo) (r : Fin 4) :
    Matches Settled (State.segmentBackoffExpiry n r s) := by
  unfold State.segmentBackoffExpiry
  split
  · next x found =>
    split
    · next expired =>
      obtain ⟨before, after, records, pending⟩ := recordPending_eq found
      refine settled_settle (h.setChannel (fun shape => ?_) ?_)
      · have working := working_of_records shape (by rw [records]; simp)
        obtain ⟨notice, size, cut, tiles⟩ := (shape_working working).mp shape
        refine (shape_working (ch := (s.channel n).recordPending r.val) working).mpr ⟨notice, size, cut, ?_⟩
        rw [pending]
        rw [records] at tiles
        exact (tiles_of_map_eq (by simp)).mp tiles
      · dsimp only
        rw [pending, records, outstandingTags_append, outstandingTags_append,
          outstandingTags_cons_other (r := x) (by rw [expired]; exact fun _ => SegState.noConfusion),
          outstandingTags_cons_other (fun _ => SegState.noConfusion)]
    · exact h
  · exact h

theorem settled_endNoticeBackoffExpiry (h : Matches Settled s) (n : ChannelNo) :
    Matches Settled (State.endNoticeBackoffExpiry n s) := by
  unfold State.endNoticeBackoffExpiry
  split
  · next x notice =>
    split
    · exact settled_settle (matches_setNotice h (notifying_of_notice (h n).1 (by rw [notice]; simp)) _)
    · exact h
  · exact h

theorem settled_hostNoticeBackoffExpiry (h : Matches Settled s) : Matches Settled s.hostNoticeBackoffExpiry := by
  unfold State.hostNoticeBackoffExpiry
  dsimp only
  split
  · exact settled_settle (h.blocks rfl rfl)
  · exact h

theorem settled_listenTimerExpiry (h : Matches Settled s) : Matches Settled s.listenTimerExpiry := by
  unfold State.listenTimerExpiry
  split
  · exact h.blocks rfl rfl
  · exact h

theorem settled_heartbeatTimerExpiry (h : Matches Settled s) : Matches Settled s.heartbeatTimerExpiry := by
  unfold State.heartbeatTimerExpiry
  split
  · dsimp only
    split
    · split <;> exact h.blocks rfl rfl
    · exact h.blocks rfl rfl
  · exact h

theorem settled_forceDrain (h : Matches Settled s) : Matches Settled s.forceDrain := by
  have channels : Matches Settled (allChannels.foldl State.forceChannel s) := matches_foldl _ (fun u c hu => by
    unfold State.forceChannel
    split
    · exact settled_endChannel hu c .left none
    · exact hu) _ h
  unfold State.forceDrain
  dsimp only
  generalize allChannels.foldl State.forceChannel s = u at channels
  have slot : Matches Settled u.forceSlot := by
    unfold State.forceSlot
    split
    · have released := settled_releaseHost channels
      generalize u.releaseOwner .host = v at released
      exact released.blocks rfl rfl
    · exact channels
  have beside := (forceInbound_beside u.forceSlot).1
  have inbound : Matches Settled u.forceSlot.forceInbound := slot.blocks beside.channels beside.tracker
  generalize u.forceSlot.forceInbound = v at inbound
  exact inbound.blocks rfl rfl

theorem settled_drainTimerExpiry (h : Matches Settled s) : Matches Settled s.drainTimerExpiry := by
  unfold State.drainTimerExpiry
  split
  · exact settled_settle (settled_forceDrain h)
  · exact h

theorem settled_silenceTimerExpiry (h : Matches Settled s) (n : Fin 31) : Matches Settled (State.silenceTimerExpiry n s) := by
  unfold State.silenceTimerExpiry
  split
  · exact settled_settle (settled_becomeAbsent h _)
  · exact h

/-! ## The local bus -/

theorem settled_busGrant (h : Matches Settled s) : Matches Settled s.busGrant := by
  unfold State.busGrant
  split
  · split <;> exact h.blocks rfl rfl
  · exact h

theorem matches_wordWritten (h : Matches due s) (x : WordTransfer) : Matches due (s.wordWritten x) := by
  obtain ⟨l, eq⟩ := wordWritten_eq s x
  rw [eq]
  exact h.blocks rfl rfl

theorem matches_tailDone (h : Matches due s) : Matches due s.tailDone := by
  unfold State.tailDone
  split
  · exact matches_wordWritten (s := { s with port := { s.port with tail := none } }) (h.blocks rfl rfl) _
  · exact h

theorem live_of_landingTag (timers : TrackerTimers s) (landing : s.landingTag = some g) : (s.entry g).state = .live :=
  (timers g).2.1 (List.find?_some (p := fun x => (s.entry x).landingMark) landing)

/-- A landing ends cleanly (R56). -/
theorem settled_landed (h : Matches Settled s) (timers : TrackerTimers s) : Matches Settled s.landed := by
  unfold State.landed
  split
  · next x f rest landing _ =>
    have live := live_of_landingTag timers landing
    split
    · next g last place p _ =>
      dsimp only
      have counted : Matches Settled (s.setEntry x { s.entry x with
          landingMark := false, received := (s.entry x).received + p.length }).popBuffer :=
        matches_popBuffer (h.setEntry rfl rfl Iff.rfl)
      split
      · refine settled_finalAnswer counted ?_ .completed
        have self := entry_setEntry_self s x { s.entry x with
          landingMark := false, received := (s.entry x).received + p.length }
        exact (congrArg Entry.state self).trans live
      · exact counted
    · exact h
  · exact h

/-- A bus error on a landing (R57). -/
theorem settled_landingError (h : Matches Settled s) (timers : TrackerTimers s) : Matches Settled s.landingError := by
  unfold State.landingError
  split
  · next x landing =>
    have live := live_of_landingTag timers landing
    have lost := matches_popBuffer (h.lose (e := (s.entry x).abandon) rfl rfl (.inr live))
    have self : (s.setEntry x (s.entry x).abandon).popBuffer.entry x = (s.entry x).abandon := entry_setEntry_self s x _
    exact settled_report lost (by rw [self]; exact not_awaited_abandon _) (by rw [self]; rfl) .localFault
  · exact h

theorem settled_reportEnd (h : Matches Settled s) (timers : TrackerTimers s) (b : Burst) : Matches Settled (s.reportEnd b) := by
  unfold State.reportEnd
  split
  · exact h
  · split
    · exact settled_landed h timers
    · unfold State.serviceDone
      split
      · exact matches_engineAnswer h _
      · exact h.blocks rfl rfl
      · exact h
    · exact h.setChannel (fun shape => shape) rfl

theorem settled_reportError (h : Matches Settled s) (timers : TrackerTimers s) (b : Burst) : Matches Settled (s.reportError b) := by
  unfold State.reportError
  split
  · exact h
  · split
    · exact settled_landingError h timers
    · unfold State.serviceError
      split
      · split
        · exact matches_engineAnswer h _
        · exact matches_engineAnswer h _
        · exact h
        · exact h
      · exact h
    · exact settled_endChannel h _ .localFault none

theorem settled_burstEnd (h : Matches Settled s) (timers : TrackerTimers s) (w : Word) (b : Burst) :
    Matches Settled (State.burstEnd w b s) := by
  obtain ⟨l, eq⟩ := wordWritten_eq s b.current
  have written := matches_wordWritten h b.current
  unfold State.burstEnd
  rw [eq] at written ⊢
  exact settled_settle (settled_reportEnd (s := State.releaseBus { s with ramWrites := l }) (written.blocks rfl rfl) timers _)

theorem settled_busError (h : Matches Settled s) (timers : TrackerTimers s) (b : Burst) : Matches Settled (State.busError b s) :=
  settled_settle (settled_reportError (s := s.releaseBus) (h.blocks rfl rfl) timers b)

/-! ## Every command and every microsecond -/

theorem takes_settled {f : State → State} (h : Matches Settled s) (acts : Matches Settled (f s)) (out : s.takes f = .next t) :
    Matches Settled t := by
  unfold State.takes at out
  rw [Host.Outcome.next.injEq] at out
  rw [← out]
  split
  · exact h
  · exact acts

theorem next_settled {u : State} (h : Matches Settled u) (out : Host.Outcome.next u = (.next t : Step)) : Matches Settled t := by
  rw [Host.Outcome.next.injEq] at out
  exact out ▸ h

theorem exec_settled {i : Instr} (h : Matches Settled s) (timers : TrackerTimers s) (out : exec i s = .next t) :
    Matches Settled t := by
  have command : ∀ {code : BitVec 8} {op : BitVec 3} {f : ChannelNo → State → State}, (∀ c, Matches Settled (f c s)) →
      (s.takes fun s => s.channelCommand code op f) = .next t → Matches Settled t := fun taken =>
    takes_settled h (settled_channelCommand h _ _ taken)
  have ends : Matches Settled s.tailDone := matches_tailDone h
  cases i with
  | join op => exact takes_settled h (settled_join h op) out
  | leave op => exact takes_settled h (settled_leave h op) out
  | stationReset op => exact takes_settled h (settled_stationReset s) out
  | holdUp op => exact takes_settled h (settled_holdUp h op) out
  | holdDown op => exact takes_settled h (settled_holdDown h op) out
  | sendNotice op => exact takes_settled h (settled_sendNotice h op) out
  | popNotice op => exact takes_settled h (settled_popNotice h op) out
  | clearCounters op => exact takes_settled (f := State.clearCounters) h (h.blocks rfl rfl) out
  | chEnable op => exact command (settled_chEnable h op) out
  | chStart op => exact command (settled_chStart h op) out
  | chPause op => exact command (settled_chPause h op) out
  | chResume op => exact command (settled_chResume h op) out
  | chAbort op => exact command (settled_chAbort h op) out
  | chDisable op => exact command (settled_chDisable h op) out
  | unknownCommandCode code op =>
    replace out : execUnknownCommandCode code op s = .next t := out
    unfold execUnknownCommandCode at out
    split at out
    · cases out
    · exact takes_settled h (matches_refuse h _ _ _) out
  | stnNumberWrite v => exact takes_settled h (settled_writeNumber h v) out
  | timingWrite v => exact takes_settled h (settled_writeTiming h v) out
  | windowTableWrite n w v => exact takes_settled h (settled_writeWindow h n w v) out
  | descriptorWrite c w v => exact takes_settled h (settled_writeDescriptor h c w v) out
  | hnSendWrite v => exact takes_settled h (settled_writeHnSend h v) out
  | evtFlagsWrite v => exact takes_settled (f := State.clearFlags v) h (h.blocks rfl rfl) out
  | evtEnableWrite v => exact takes_settled (f := State.writeEnables v) h (h.blocks rfl rfl) out
  | rosterChangeWrite v => exact takes_settled (f := State.clearChangeFlags v) h (h.blocks rfl rfl) out
  | otherRegisterWrite a v =>
    replace out : execOtherRegisterWrite a v s = .next t := out
    unfold execOtherRegisterWrite at out
    split at out
    · cases out
    · exact next_settled h out
  | hardwareReset => exact next_settled (settled_hardwareReset s) out
  | resetRelease straps =>
    refine next_settled (u := if s.host.resetLow then s.release straps else s) ?_ out
    split
    · exact h.blocks rfl rfl
    · exact h
  | triggerEdge line => exact takes_settled h (settled_triggerEdge h line) out
  | channelStart n => exact takes_settled h (settled_startAndSettle h n) out
  | segmentIssue n => exact takes_settled h (settled_segmentIssue h n) out
  | tagAllocation => exact takes_settled h (settled_tagAllocation h) out
  | frameGap =>
    refine takes_settled (f := State.frameGap) h ?_ out
    unfold State.frameGap
    split
    · exact h.blocks rfl rfl
    · exact h
  | roundGap =>
    refine takes_settled (f := State.roundGap) h ?_ out
    unfold State.roundGap
    split
    · exact h.blocks rfl rfl
    · exact h
  | claimStart => exact takes_settled h (settled_claimStart h) out
  | claimLost => exact takes_settled h (settled_claimLost h) out
  | claimWon => exact takes_settled h (settled_claimWon h) out
  | sendCleanEnd => exact takes_settled h (settled_sendCleanEnd h) out
  | sendGarbled => exact takes_settled h (settled_sendGarbled h) out
  | frameJudged claim bytes => exact takes_settled h (settled_frameJudged h claim bytes) out
  | frameDispatch => exact takes_settled h (settled_frameDispatch h) out
  | deadlineExpiry x => exact takes_settled h (settled_deadlineExpiry h x) out
  | quarantineExpiry x => exact takes_settled h (settled_quarantineExpiry h x) out
  | segmentBackoffExpiry n r => exact takes_settled h (settled_segmentBackoffExpiry h n r) out
  | endNoticeBackoffExpiry n => exact takes_settled h (settled_endNoticeBackoffExpiry h n) out
  | hostNoticeBackoffExpiry => exact takes_settled h (settled_hostNoticeBackoffExpiry h) out
  | listenTimerExpiry => exact takes_settled h (settled_listenTimerExpiry h) out
  | heartbeatTimerExpiry => exact takes_settled h (settled_heartbeatTimerExpiry h) out
  | drainTimerExpiry => exact takes_settled h (settled_drainTimerExpiry h) out
  | drainEnd => exact takes_settled h (matches_checkDrain h) out
  | silenceTimerExpiry n => exact takes_settled h (settled_silenceTimerExpiry h n) out
  | busGrant => exact takes_settled h (settled_busGrant h) out
  | burstEnd w =>
    replace out : execBurstEnd w s = .next t := out
    unfold execBurstEnd at out
    split at out
    · refine next_settled ?_ out
      split
      · exact settled_burstEnd h timers w _
      · exact h
    · exact next_settled ends out
  | busError =>
    replace out : execBusError s = .next t := out
    unfold execBusError at out
    split at out
    · exact next_settled (settled_busError h timers _) out
    · exact next_settled (u := s.tailError) (h.blocks rfl rfl) out
  | engineAnswerPlaced => exact takes_settled h (settled_engineAnswerPlaced h) out
  | startBit => exact takes_settled (f := State.startBit) h (h.blocks rfl rfl) out
  | wordTransferEnd w =>
    replace out : execWordTransferEnd w s = .next t := out
    unfold execWordTransferEnd at out
    split at out
    · refine next_settled ?_ out
      split
      · exact (matches_wordWritten h _).blocks rfl rfl
      · exact h
    · exact next_settled ends out

theorem tick_record (r : SegRecord) : r.tick.offset = r.offset ∧ r.tick.length = r.length ∧
    ∀ g, r.tick.state = .outstanding g ↔ r.state = .outstanding g := by
  unfold SegRecord.tick
  split
  · next n state =>
    refine ⟨rfl, rfl, fun g => ?_⟩
    rw [state]
    exact iff_of_false SegState.noConfusion SegState.noConfusion
  · exact ⟨rfl, rfl, fun _ => Iff.rfl⟩

theorem shape_tick {ch : Channel} (shape : ChannelShape ch) :
    ChannelShape ch.tick ∧ outstandingTags ch.tick.records = outstandingTags ch.records := by
  refine ⟨?_, outstandingTags_map (fun r => (tick_record r).2.2) _⟩
  have none : ch.notice = none → ch.tick.notice = none := fun notice => by rw [Channel.tick, notice]; rfl
  have empty : ch.records = [] → ch.tick.records = [] := fun records => by rw [Channel.tick, records]; rfl
  have work : ch.state = .running ∨ ch.state = .paused → ChannelShape ch.tick := fun working => by
    obtain ⟨notice, size, cut, tiles⟩ := (shape_working working).mp shape
    exact (shape_working (ch := ch.tick) working).mpr
      ⟨none notice, size, cut, (tiles_map fun r => ⟨(tick_record r).1, (tick_record r).2.1⟩).mpr tiles⟩
  cases state : ch.state with
  | off =>
    obtain ⟨records, notice⟩ := (shape_off state).mp shape
    exact (shape_off (ch := ch.tick) state).mpr ⟨empty records, none notice⟩
  | armed =>
    obtain ⟨records, notice, front, size⟩ := (shape_armed state).mp shape
    exact (shape_armed (ch := ch.tick) state).mpr ⟨empty records, none notice, front, size⟩
  | running => exact work (.inl state)
  | paused => exact work (.inr state)
  | notifying =>
    obtain ⟨records, notice, size⟩ := (shape_notifying state).mp shape
    refine (shape_notifying (ch := ch.tick) state).mpr ⟨empty records, ?_, size⟩
    rw [Channel.tick, ne_eq, Option.map_eq_none_iff]
    exact notice

theorem settled_tick (h : Matches Settled s) : Matches Settled s.tick := by
  unfold State.tick
  split
  · exact h
  · refine h.of_same (fun c shape => ?_) fun c x => ?_
    · rw [show ∀ u : State, u.channels = mapTable Channel.tick s.channels → u.channel c = (s.channel c).tick from fun u eq => by
        rw [State.channel, eq]; exact mapTable_get _ _ c]
      · exact shape_tick shape
      · rfl
    · rw [show ∀ u : State, u.tracker.entries = mapTable Entry.tick s.tracker.entries → u.entry x = (s.entry x).tick from
        fun u eq => by rw [State.entry, eq]; exact mapTable_get _ _ x]
      · exact Iff.rfl
      · rfl

theorem step_keeps_recordsMatch (timers : TrackerTimers s) (h : RecordsMatch s) (out : step s = .next t) : RecordsMatch t := by
  rw [recordsMatch_iff] at h ⊢
  unfold step at out
  split at out
  · next i rest _ => exact exec_settled (s := { s with pending := rest }) (h.blocks rfl rfl) timers out
  · exact next_settled (settled_tick h) out

end

/-- As many OUTSTANDING records as READ and WRITE entries in flight. -/
theorem count_of_recordsMatch {s : State} (h : RecordsMatch s) (c : ChannelNo) : (s.channel c).outstandingCount =
    (allTags.filter fun g => (s.entry g).owner = .channel c ∧ (s.entry g).kind ≠ .notice ∧
      ((s.entry g).state = .queued ∨ (s.entry g).state = .live)).length := by
  obtain ⟨-, once, tags⟩ := h c
  rw [count_eq_tags]
  refine ((List.perm_ext_iff_of_nodup once (allTags_nodup.filter _)).mpr fun g => ?_).length_eq
  rw [tags, List.mem_filter, decide_eq_true_eq, and_iff_right (mem_allTags g)]

/-- Settles O58. -/
theorem stepKeepsDepth : Obligations.StepKeepsDepth := by
  refine ⟨fun s t hs out => ?_, fun s t hs out => ?_, fun s t timers hs out => step_keeps_recordsMatch timers hs out,
    fun s hs c => count_of_recordsMatch hs c⟩
  · exact step_keeps (P := OneQueued) (fun _ _ hs => hs) (fun _ _ => Changes.keeps_oneQueued)
      (fun _ _ _ => event_keeps_oneQueued) hs out
  · exact step_keeps (P := WithinDepth) (fun _ _ hs => hs) (fun _ _ => Changes.keeps_withinDepth)
      (fun _ _ _ => event_keeps_withinDepth) hs out

end Sys2Proof.Proofs
end
